-- ==== Sys2Proof/Word.lean ====
section
/-! DEFINITION. The word types of the block (R11, R60, R61): a byte of the link and of the frame buffer, a 32-bit word of
the sample array. Samples are bit patterns only (R196); all arithmetic is unsigned (R11, R128, R202). -/
namespace Sys2Proof

/-- One byte: what an exchange carries each way, and one cell of `BUF` (R11, R60). -/
abbrev Byte := BitVec 8

/-- One 32-bit cell of `SAM`; a pattern, never computed on (R61, R196). -/
abbrev Sample := BitVec 32

end Sys2Proof
end

