-- ==== Sys2Proof/Syntax.lean ====
section
/-! DEFINITION. The operations of the block as syntax: one constructor of `Instr` per row of `spec/opcode_table.json`
(R90), the labels of the micro-program (R181), the protocol states (R21), the commands (R42) and the moves of the
environment and the schedule (R9, R72, R260). -/
namespace Sys2Proof

/-- `ProtocolState` (R21). The three states other than `awaitingHeader` are the collecting states. -/
inductive PState where
  | init
  | awaitingHeader
  | receivingConfig
  | receivingMessage
deriving DecidableEq, Repr, Inhabited

/-- The labels of the sequencer's micro-program, row by row of the table of R181: the type of `seq_pc` and `ret` (R32). -/
inductive Label where
  | idle
  | b1 | b2 | b3
  | h1 | h2 | h3 | h4 | h5 | h6a | h6b | h6c | h6d | h7 | h8
  | h9a | h9b | h9c
  | h10 | h11a | h11b | h11c | h11d | h12
  | n1 | n2a | n2b | n2c | n2d | n3 | n4 | n5 | n6 | n7 | n8 | n9
  | f1 | f2 | f3 | f4
  | a1 | a2 | a3 | a4a | a4b | a4c | a4d | a5 | a6
deriving DecidableEq, Repr, Inhabited

/-- A command of the command port (R42). The index of `get` is an unbounded integer (R105, D17). -/
inductive Command where
  | begin_
  | read
  | length
  | get (i : Int)
deriving DecidableEq, Repr, Inhabited

/-- One move of the environment or of the schedule (R9, R72): a run of the block is a sequence of these (R264). -/
inductive Move where
  /-- The controller makes one exchange with this received byte (R40, R247). -/
  | rx (b : Byte)
  /-- The application issues a command (R42, R183). -/
  | cmd (c : Command)
  /-- The sequencer takes its turn: one micro-op, where it has one (R180). -/
  | seq
  /-- The reset event (R260). -/
  | reset
deriving DecidableEq, Repr, Inhabited

/-- The two micro-steps that the row BEGIN names for itself: its admission (R183, R184) and its completion N9 (R193). -/
inductive BeginPart where
  | command
  | complete
deriving DecidableEq, Repr

/-- The micro-steps that the row READ names for itself: its admission (R183), A2, A3 (R194) and its completion A6 (R195). -/
inductive ReadPart where
  | command
  | clearIdx
  | loopTest
  | complete
deriving DecidableEq, Repr

/-- The operations of R90, one constructor per row of the opcode table, in the table's order. -/
inductive Instr where
  /-- HB_NOP (R124). -/
  | hbNop
  /-- MSG_HDR (R125). -/
  | msgHdr
  /-- CFG_HDR (R126). -/
  | cfgHdr
  /-- IGN with the header byte it ignores (R127). -/
  | ign (rx : Byte)
  /-- COLLECT_INIT with its payload byte (R142). -/
  | collectInit (rx : Byte)
  /-- COLLECT_CFG with its payload byte (R144). -/
  | collectCfg (rx : Byte)
  /-- COLLECT_MSG with its payload byte (R146). -/
  | collectMsg (rx : Byte)
  /-- DROPPED with the byte that is lost (R229). -/
  | dropped (rx : Byte)
  /-- BEGIN: admission or completion (R183, R184, R193). -/
  | beginCmd (part : BeginPart)
  /-- READ: admission, A2, A3 or completion (R183, R194, R195). -/
  | readCmd (part : ReadPart)
  /-- LENGTH (R200). -/
  | lengthCmd
  /-- GET i (R197). -/
  | getCmd (i : Int)
  /-- SUSPEND (R198). -/
  | suspend
  /-- RESUME (R199). -/
  | resume
  /-- REARM: the micro-op H2 (and H9b) between its SUSPEND and its RESUME (R160). -/
  | rearm
  /-- SESSION_INIT (R184). -/
  | sessionInit
  /-- WAIT_DA (R182). -/
  | waitDa
  /-- CLEAR_DA (R162, R186). -/
  | clearDa
  /-- SIG_ASSERT (R165, R185). -/
  | sigAssert
  /-- SIG_DEASSERT (R187). -/
  | sigDeassert
  /-- LOAD_GRP a: the micro-op that fills latch `k` from the base address `a` (R163, R166, R188, R194). -/
  | loadGrp (a : BitVec 10) (k : Fin 4)
  /-- CHECK_SENTINEL (R164). -/
  | checkSentinel
  /-- CHECK_ACK (R167). -/
  | checkAck
  /-- LATCH_CFG (R188). -/
  | latchCfg
  /-- CHECK_CFG (R189). -/
  | checkCfg
  /-- REALLOC: the micro-op N6 between its SUSPEND and its RESUME (R191). -/
  | realloc
  /-- ALLOC_SAM (R192). -/
  | allocSam
  /-- STORE_SAM (R195). -/
  | storeSam
  /-- CONNECT: entering the sub-sequence (R161). -/
  | connect
  /-- REQUEST_FRAME: entering the sub-sequence with the label to return to (R201). -/
  | requestFrame (ret : Label)
  /-- REQUEST_CONFIG: entering the sub-sequence (R203). -/
  | requestConfig
deriving DecidableEq, Repr

end Sys2Proof
end

