-- ==== Sys2Proof/Config.lean ====
section
/-! DEFINITION. What an implementation fixes: the constants of R7 as one configuration record, the open parameters of R8,
and the free values (opaque: no body, no proof can see what they are). -/
namespace Sys2Proof

/-- The constants of R7, each a field with the document's value (D31): `BUF_MAX` follows from two of them, as R7 says. The
types also fix the width of a link byte and the four latches of R29 (log 33). -/
structure Config where
  hdrHeartbeat : Byte := 0x10
  hdrMessage : Byte := 0x20
  hdrConfig : Byte := 0x30
  sentinel : Byte := 0xFF
  ack : Byte := 0x00
  groupLen : Nat := 4
  bufInitLen : BitVec 11 := 4
  wordBytes : Nat := 4
  hbBits : Nat := 8
  dtFloat : Byte := 0x01
  sampleMax : Nat := 255
  bufMax : Nat := wordBytes * sampleMax
deriving DecidableEq, Repr

/-- The document's values, the only ones the spec vouches for (R7). -/
def Config.document : Config := {}

/-- `NATIVE_ENDIAN` (R8, R62). -/
inductive Endian where
  | little
  | big
deriving DecidableEq, Repr

/-- The open parameters of R8, with the defaults the spec's vectors use (DESIGN CHOICE, logs 5 to 8; unsafe for a claim
that leans on a default, safe for one about every `Params`). `SIG_POLARITY` is used by no rule and is not held (log 29). -/
structure Params where
  /-- `HB_RESET` (D3). -/
  hbReset : Byte := 0x00
  /-- `NATIVE_ENDIAN` (D14). -/
  endian : Endian := .little
  /-- `HS_ACK_REARM` (D7). -/
  hsAckRearm : Bool := false
  /-- `ALLOC_FAIL` as the list of the lengths it is true of (D15). -/
  allocFail : List (BitVec 11) := []
deriving DecidableEq, Repr

/-- FREE VALUE (log 4; V1, R229): the byte the controller receives in the `n`th draw, in an exchange made while delivery
is suspended. Nothing constrains it (safe). -/
opaque Config.freeTx : Nat → Byte

/-- FREE VALUE (log 2; V7, R10): the environment's and the schedule's next move where State lists none. Nothing constrains
it (safe). -/
opaque Config.freeMove : Nat → Move

end Sys2Proof
end

