-- ==== Sys2Proof/Machine/State.lean ====
section
/-! DEFINITION. The state of the block: every cell of R20, and the model's own fields for what R10 calls parameters of the
step relation (the environment's moves, the parameters of R8, the counter of the free values) and for the outputs of the
ports (R40, R42). Plain data. -/
namespace Sys2Proof.Machine

/-- `session` (R31). -/
inductive Session where
  | down
  | up
deriving DecidableEq, Repr

/-- `sig` (R33): the level only, its polarity is open (D20). -/
inductive Sig where
  | deasserted
  | asserted
deriving DecidableEq, Repr

/-- The storage a read of an unwritten cell names (R231). -/
inductive MemId where
  | buf
  | sam
  | grp
deriving DecidableEq, Repr

/-- The faults of R220, each with the value it records. A fault is raised as a NEXT state whose cell `fault` holds it; the
outcome `.fault` is what every later step of the stopped machine answers (R246, log 9). All are safe: the machine stops
where the source gives no behaviour. -/
inductive Fault where
  /-- Raised by CHECK_CFG at N4 (R189, R224): the offending `data_type`. Safe. -/
  | badDataType (dataType : Byte)
  /-- Raised by CHECK_CFG at N4 (R189, R225). Safe. -/
  | zeroSampleCount
  /-- Raised by GET (R197, R226), and by STORE_SAM as a guard that no run reaches (log 12). Safe. -/
  | indexRange (i : Int) (samLen : Byte)
  /-- Raised by the collecting operations (R141, R228); no run reaches it. Safe. -/
  | posRange (pos : BitVec 10) (bufLen : BitVec 11)
  /-- Raised by REALLOC under a non-default `ALLOC_FAIL` (R191, R230). Safe. -/
  | allocFail (newLen : BitVec 11)
  /-- Raised by a read of an unwritten cell: LOAD_GRP (`buf`), GET (`sam`), the readers of the latches (`grp`)
  (R65, R231). Safe. -/
  | uninit (mem : MemId) (addr : Nat)
deriving DecidableEq, Repr

/-- Refusals of the MODEL. A command the block turns away (Busy, NotReady; R234) is no such refusal: the machine goes on. -/
inductive Refusal where
  /-- Answered by `exec` alone, for an instruction that has no meaning yet; none is left. Safe. -/
  | notModelled (mnemonic : String)
deriving DecidableEq, Repr

/-- Why a command is turned away (R183, R234). -/
inductive CommandRefusal where
  /-- `read` while `session` = Down. -/
  | notReady
  /-- Any command while `seq_pc` ≠ IDLE. -/
  | busy
deriving DecidableEq, Repr

/-- One output of the block at a port (R40, R42, R264). -/
inductive Output where
  /-- The outgoing byte of an exchange (R40, R121). -/
  | tx (b : Byte)
  /-- The Boolean result of `begin` or `read` (R193, R195). -/
  | done (ok : Bool)
  /-- The result of `length` (R200). -/
  | length (n : Nat)
  /-- The result of `get` (R197). -/
  | sample (w : Sample)
  /-- A command was turned away: it returns no result (R234, log 18). -/
  | refused (r : CommandRefusal)
deriving DecidableEq, Repr

/-- The latches `grp[0]` to `grp[3]` (R29). `none` is the spec's own value `unwritten` (R45, R65), not a missing reset
value. -/
structure Group where
  b0 : Option Byte
  b1 : Option Byte
  b2 : Option Byte
  b3 : Option Byte
deriving DecidableEq, Repr

/-- The state. The first twenty fields are the cells of R20; the last four are the model's own. -/
structure State where
  /-- R21 -/
  pstate : PState
  /-- R22 -/
  pos : BitVec 10
  /-- R23 -/
  bufLen : BitVec 11
  /-- R26, R60: the written cells of `BUF`, addresses rising; an unlisted address is `unwritten` (R65, log 11). -/
  buf : List Host.Cell
  /-- R24 -/
  dataAvail : Bool
  /-- R25 -/
  hb : Byte
  /-- R27 -/
  dataType : Byte
  /-- R27 -/
  sampleCount : Byte
  /-- R27 -/
  rsv0 : Byte
  /-- R27 -/
  rsv1 : Byte
  /-- R28 -/
  samLen : Byte
  /-- R28, R61: the written cells of `SAM`, indices rising; an unlisted index is `unwritten` (R65, log 11). -/
  samples : List (Nat × Sample)
  /-- R30 -/
  isrEn : Bool
  /-- R31 -/
  session : Session
  /-- R32 -/
  seqPc : Label
  /-- R32 -/
  ret : Label
  /-- R29 -/
  grp : Group
  /-- R29 -/
  idx : Byte
  /-- R33 -/
  sig : Sig
  /-- R34 -/
  fault : Option Fault
  /-- MODEL: the parameters of R8; no step writes them (logs 5 to 8). -/
  params : Params
  /-- MODEL: the next moves of the environment and the schedule, in order (log 1). -/
  script : List Move
  /-- MODEL: how many free values have been drawn (logs 2, 4). -/
  draws : Nat
  /-- MODEL: the outputs so far, newest first (log 3). -/
  out : List Output
deriving DecidableEq, Repr

/-- The state right after reset: the table of R45, with the default parameters and nothing placed (logs 1 to 8). -/
def State.reset : State where
  pstate := .init
  pos := 0
  bufLen := Config.document.bufInitLen
  buf := []
  dataAvail := false
  hb := Params.hbReset {}
  dataType := 0
  sampleCount := 0
  rsv0 := 0
  rsv1 := 0
  samLen := 0
  samples := []
  isrEn := false
  session := .down
  seqPc := .idle
  ret := .idle
  grp := ⟨none, none, none, none⟩
  idx := 0
  sig := .deasserted
  fault := none
  params := {}
  script := []
  draws := 0
  out := []

end Sys2Proof.Machine
end

