-- ==== Sys2Proof/Machine/Flags.lean ====
section
/-! DEFINITION. The status cells and the heartbeat: what sets, clears or moves them (R24, R33, R43, R122, R143). The block
has no condition codes (R43). -/
namespace Sys2Proof.Machine

/-- The counter after a delivered exchange whose entry state is `p`: down by one in Init, up by one otherwise, modulo two to
the power `HB_BITS` (R7, R122; the state at entry, D4). -/
def heartbeatAfter (p : PState) (hb : Byte) : Byte :=
  BitVec.ofNat 8
    ((hb.toNat + if p = .init then 2 ^ Config.document.hbBits - 1 else 1) % 2 ^ Config.document.hbBits)

/-- The wrap of R143: once `pos` has reached `buf_len`, the frame is complete. -/
def wrap (s : State) : State :=
  if s.pos.toNat = s.bufLen.toNat then
    { s with dataAvail := true, pos := 0, pstate := .awaitingHeader }
  else s

/-- `data_avail <- false` (R162, R186): a plain write. -/
def clearDataAvail (s : State) : State := { s with dataAvail := false }

/-- `sig <- asserted` (R165, R185): idempotent. -/
def assertSig (s : State) : State := { s with sig := .asserted }

/-- `sig <- deasserted` (R184, R187). -/
def deassertSig (s : State) : State := { s with sig := .deasserted }

end Sys2Proof.Machine
end

