-- ==== Sys2Proof/Machine/Operands.lean ====
section
/-! DEFINITION. Operand assembly: word assembly (R62), group addresses (R67, R202), the new buffer length (R202), the four
latches. -/
namespace Sys2Proof.Machine

/-- `word(b0, b1, b2, b3)` of R62; `b0` arrived first. -/
def word (e : Endian) (b0 b1 b2 b3 : Byte) : Sample :=
  match e with
  | .little => b3 ++ b2 ++ b1 ++ b0
  | .big => b0 ++ b1 ++ b2 ++ b3

/-- The buffer address `4 × idx` of sample `idx` (R67, R202). -/
def groupBase (idx : Byte) : BitVec 10 :=
  BitVec.ofNat 10 (Config.document.wordBytes * idx.toNat)

/-- `newLen = 4 × zext_11(sample_count)` (R191, R202). -/
def newLen (sampleCount : Byte) : BitVec 11 :=
  BitVec.ofNat 11 (Config.document.wordBytes * sampleCount.toNat)

/-- `ALLOC_FAIL(newLen)` (R8, R66, D15). -/
def allocFails (p : Params) (len : BitVec 11) : Bool := p.allocFail.contains len

/-- Latch `k` of a group (R29). -/
def Group.get (g : Group) (k : Fin 4) : Option Byte :=
  match k with
  | 0 => g.b0
  | 1 => g.b1
  | 2 => g.b2
  | 3 => g.b3

/-- `grp[k] <- b` (R163). -/
def Group.put (g : Group) (k : Fin 4) (b : Byte) : Group :=
  match k with
  | 0 => { g with b0 := some b }
  | 1 => { g with b1 := some b }
  | 2 => { g with b2 := some b }
  | 3 => { g with b3 := some b }

/-- Whether the `GROUP_LEN` bytes of a group, read into the latches, all equal `c` (R7, R164, R167). -/
def groupIs (c g0 g1 g2 g3 : Byte) : Bool :=
  ([g0, g1, g2, g3].take Config.document.groupLen).all (· == c)

end Sys2Proof.Machine
end

