-- ==== Sys2Proof/Machine/Ops.lean ====
section
/-! DEFINITION. The shared operations: the two memories (R60, R61, R65, R66), raising a fault (R246), the heartbeat prefix of
a byte step (R120, R121), the micro-program's control transfer (R181), admission of commands (R183), outputs. -/
namespace Sys2Proof.Machine

/-- What one step answers. -/
abbrev Answer := Host.Outcome State Fault Refusal

/-! ### Memories as sorted lists of written cells -/

/-- The cell at `a`; `none` is `unwritten` (R65). -/
def Memory.read {α : Type} : List (Nat × α) → Nat → Option α
  | [], _ => none
  | (b, v) :: m, a => if a = b then some v else Memory.read m a

/-- `MemWrite` into the sorted list (R11). -/
def Memory.write {α : Type} : List (Nat × α) → Nat → α → List (Nat × α)
  | [], a, v => [(a, v)]
  | (b, w) :: m, a, v =>
    if a < b then (a, v) :: (b, w) :: m
    else if a = b then (a, v) :: m
    else (b, w) :: Memory.write m a v

/-- The canonical form: addresses strictly rising. An unlisted address is `unwritten` and no listed cell is, so no listed
entry can equal what an unlisted address reads as. -/
def Memory.wf {α : Type} : List (Nat × α) → Bool
  | [] => true
  | [_] => true
  | (a, _) :: (b, w) :: m => decide (a < b) && Memory.wf ((b, w) :: m)

/-- `MemRead(BUF, a, 1)` (R60, R63, R65): nothing outside `0 .. buf_len - 1` is a cell (log 12). -/
def bufRead (s : State) (a : Nat) : Option Byte :=
  if a < s.bufLen.toNat then Memory.read s.buf a else none

/-- `MemWrite(BUF, a, 1, v)` (R60). -/
def bufWrite (s : State) (a : Nat) (v : Byte) : State :=
  { s with buf := Memory.write s.buf a v }

/-- `MemRead(SAM, i, 4)` (R61, R65). -/
def samRead (s : State) (i : Nat) : Option Sample :=
  if i < s.samLen.toNat then Memory.read s.samples i else none

/-- `MemWrite(SAM, i, 4, w)` (R61). -/
def samWrite (s : State) (i : Nat) (w : Sample) : State :=
  { s with samples := Memory.write s.samples i w }

/-- Release `BUF` and allocate `len` bytes: every cell becomes `unwritten` (R66). -/
def allocBuf (s : State) (len : BitVec 11) : State :=
  { s with buf := [], bufLen := len }

/-- Release `SAM` and allocate `len` words: every cell becomes `unwritten` (R66, R192). -/
def allocSamples (s : State) (len : Byte) : State :=
  { s with samples := [], samLen := len }

/-! ### Faults and outputs -/

/-- `raise f` (R246): TAKING AN EXCEPTION, the one shared operation. It records the fault and nothing else changes; there is
no handler, no saved state and no return from it: the machine has stopped, and only reset clears the cell (log 9). -/
def raise (f : Fault) (s : State) : Answer := .next { s with fault := some f }

/-- A machine with a recorded fault has no step (R246); any other goes on with `k`. -/
def live (s : State) (k : Answer) : Answer :=
  match s.fault with
  | some f => .fault f
  | none => k

/-- An output at a port (R40, R42). -/
def emit (o : Output) (s : State) : State := { s with out := o :: s.out }

/-- `refuse r` (R234): no cell of R20 changes, no result; the model records that the command was turned away (log 18). -/
def refuse (r : CommandRefusal) (s : State) : Answer := .next (emit (.refused r) s)

/-! ### The byte machine -/

/-- The prefix of every delivered exchange (R120): `tx <- hb` (R121), then the counter moves by the entry state (R122).
Nothing is saved on entry and nothing restored on return (R239, R240). -/
def bytePrefix (s : State) : State :=
  emit (.tx s.hb) { s with hb := heartbeatAfter s.pstate s.hb }

/-- Store and advance (R141). -/
def storeAdvance (rx : Byte) (s : State) : State :=
  { bufWrite s s.pos.toNat rx with pos := s.pos + 1 }

/-- A payload step: the guard, then the prefix, then `Collect(rx)` (R140): store and advance (R141) and the wrap (R143).
A step that begins outside the buffer raises `PosRange` and writes nothing (R63, R141), the prefix included (log 13). -/
def collect (rx : Byte) (s : State) : Answer :=
  if s.bufLen.toNat ≤ s.pos.toNat then raise (.posRange s.pos s.bufLen) s
  else .next (wrap (storeAdvance rx (bytePrefix s)))

/-! ### The sequencer -/

/-- `goto L` (R11). -/
def goto (l : Label) (s : State) : State := { s with seqPc := l }

/-- The column "then" of R181: where the micro-op at a label goes next, on success where it tests something; IDLE and F4,
which goes to `ret` (R187), have no row of their own here and give IDLE. -/
def Label.succ (hsAckRearm : Bool) : Label → Label
  | .idle => .idle
  | .b1 => .b2
  | .b2 => .b3
  | .b3 => .h1
  | .h1 => .h2
  | .h2 => .h3
  | .h3 => .h4
  | .h4 => .h5
  | .h5 => .h6a
  | .h6a => .h6b
  | .h6b => .h6c
  | .h6c => .h6d
  | .h6d => .h7
  | .h7 => .h8
  | .h8 => if hsAckRearm then .h9a else .h10
  | .h9a => .h9b
  | .h9b => .h9c
  | .h9c => .h10
  | .h10 => .f1
  | .h11a => .h11b
  | .h11b => .h11c
  | .h11c => .h11d
  | .h11d => .h12
  | .h12 => .n1
  | .n1 => .f1
  | .n2a => .n2b
  | .n2b => .n2c
  | .n2c => .n2d
  | .n2d => .n3
  | .n3 => .n4
  | .n4 => .n5
  | .n5 => .n6
  | .n6 => .n7
  | .n7 => .n8
  | .n8 => .n9
  | .n9 => .idle
  | .f1 => .f2
  | .f2 => .f3
  | .f3 => .f4
  | .f4 => .idle
  | .a1 => .f1
  | .a2 => .a3
  | .a3 => .a4a
  | .a4a => .a4b
  | .a4b => .a4c
  | .a4c => .a4d
  | .a4d => .a5
  | .a5 => .a3
  | .a6 => .idle

/-- The micro-op is done: `seq_pc` takes the following label of R181 (log 17). -/
def advance (s : State) : State := goto (Label.succ s.params.hsAckRearm s.seqPc) s

/-- Enter REQUEST_FRAME: `ret <- r ; goto F1` (R201), the shared act of H10, N1 and A1. -/
def callFrame (r : Label) (s : State) : State := goto .f1 { s with ret := r }

/-- Read the four latches, in order; an unwritten one raises `Uninit` (R65, R231, log 31). -/
def withGroup (s : State) (k : Byte → Byte → Byte → Byte → Answer) : Answer :=
  match s.grp.b0, s.grp.b1, s.grp.b2, s.grp.b3 with
  | some g0, some g1, some g2, some g3 => k g0 g1 g2 g3
  | none, _, _, _ => raise (.uninit .grp 0) s
  | some _, none, _, _ => raise (.uninit .grp 1) s
  | some _, some _, none, _ => raise (.uninit .grp 2) s
  | some _, some _, some _, none => raise (.uninit .grp 3) s

/-- Admission of a command (R183): only at IDLE, otherwise `refuse Busy`. -/
def whenIdle (s : State) (k : Answer) : Answer :=
  if s.seqPc = .idle then k else refuse .busy s

end Sys2Proof.Machine
end

