-- ==== Sys2Proof/Machine/Commands.lean ====
section
/-! DEFINITION. The application's commands (R183, R193 to R200). -/
namespace Sys2Proof.Machine

/-- BEGIN: admitted at IDLE it starts the micro-program at B1 (R183); at N9 it completes with true (R193). -/
def execBegin (part : BeginPart) (s : State) : Answer :=
  live s <| match part with
    | .command => whenIdle s (.next (goto .b1 s))
    | .complete => .next (goto .idle (emit (.done true) { s with session := .up }))

/-- READ: admitted at IDLE when the session is up it goes to A1, otherwise NotReady (R183); A2 clears the index and A3 tests
it (R194); at A6 it completes with true (R195). -/
def execRead (part : ReadPart) (s : State) : Answer :=
  live s <| match part with
    | .command => whenIdle s (if s.session = .up then .next (goto .a1 s) else refuse .notReady s)
    | .clearIdx => .next (goto .a3 { s with idx := 0 })
    | .loopTest => .next (goto (if s.idx = s.sampleCount then .a6 else .a4a) s)
    | .complete => .next (goto .idle (emit (.done true) s))

/-- LENGTH (R200): one step at IDLE. -/
def execLength (s : State) : Answer :=
  live s (whenIdle s (.next (emit (.length s.sampleCount.toNat) s)))

/-- GET i (R197): one step at IDLE; IndexRange before Uninit (R238). -/
def execGet (i : Int) (s : State) : Answer :=
  live s <| whenIdle s <|
    if i < 0 ∨ (s.samLen.toNat : Int) ≤ i then raise (.indexRange i s.samLen) s
    else match samRead s i.toNat with
      | some w => .next (emit (.sample w) s)
      | none => raise (.uninit .sam i.toNat) s

end Sys2Proof.Machine
end

