-- ==== Sys2Proof/Machine/Handshake.lean ====
section
/-! DEFINITION. Session initialisation (R184) and the handshake controller (42_handshake.md). -/
namespace Sys2Proof.Machine

/-- SESSION_INIT, B2 (R184, R262, D19): every cell but `hb` and `fault` at its reset value; `isr_en`, which B1 has just put
there, stays, and `seq_pc` goes on (log 19). -/
def execSessionInit (s : State) : Answer :=
  live s (.next (advance
    { allocSamples (allocBuf (deassertSig s) Config.document.bufInitLen) 0 with
      session := .down
      pstate := .init
      pos := 0
      dataAvail := false
      dataType := 0
      sampleCount := 0
      rsv0 := 0
      rsv1 := 0
      ret := .idle
      grp := ⟨none, none, none, none⟩
      idx := 0 }))

/-- REARM, H2 and H9b (R160): between its SUSPEND and its RESUME (log 14). -/
def execRearm (s : State) : Answer :=
  live s (.next (advance { s with pstate := .init, pos := 0, dataAvail := false }))

/-- CHECK_SENTINEL, H7 (R164): to H8 on a match, else back to H1 (R222). -/
def execCheckSentinel (s : State) : Answer :=
  live s <| withGroup s fun g0 g1 g2 g3 =>
    .next (goto (if groupIs Config.document.sentinel g0 g1 g2 g3 then .h8 else .h1) s)

/-- CHECK_ACK, H12 (R167): to N1 on a match, else the whole handshake again (R221). -/
def execCheckAck (s : State) : Answer :=
  live s <| withGroup s fun g0 g1 g2 g3 =>
    .next (goto (if groupIs Config.document.ack g0 g1 g2 g3 then .n1 else .h1) s)

/-- CONNECT (R161): entered at H1 (log 15). -/
def execConnect (s : State) : Answer := live s (.next (goto .h1 s))

end Sys2Proof.Machine
end

