-- ==== Sys2Proof/Machine/Negotiator.lean ====
section
/-! DEFINITION. The buffer negotiator and the sample store (R188 to R195, R203). -/
namespace Sys2Proof.Machine

/-- LATCH_CFG, N3 (R96, R188). -/
def execLatchCfg (s : State) : Answer :=
  live s <| withGroup s fun g0 g1 g2 g3 =>
    .next (advance { s with dataType := g0, sampleCount := g1, rsv0 := g2, rsv1 := g3 })

/-- CHECK_CFG, N4 (R189): the data type first (D25). -/
def execCheckCfg (s : State) : Answer :=
  live s <|
    if s.dataType ≠ Config.document.dtFloat then raise (.badDataType s.dataType) s
    else if s.sampleCount = 0 then raise .zeroSampleCount s
    else .next (goto .n5 s)

/-- REALLOC, N6 (R66, R191): between its SUSPEND and its RESUME (log 14). -/
def execRealloc (s : State) : Answer :=
  live s <|
    if allocFails s.params (newLen s.sampleCount) then raise (.allocFail (newLen s.sampleCount)) s
    else .next (advance (allocBuf s (newLen s.sampleCount)))

/-- ALLOC_SAM, N8 (R192). -/
def execAllocSam (s : State) : Answer := live s (.next (advance (allocSamples s s.sampleCount)))

/-- STORE_SAM, A5 (R62, R195). The index test is the model's guard: no run reaches it (log 12). -/
def execStoreSam (s : State) : Answer :=
  live s <| withGroup s fun g0 g1 g2 g3 =>
    if s.samLen.toNat ≤ s.idx.toNat then raise (.indexRange s.idx.toNat s.samLen) s
    else .next (goto .a3
      { samWrite s s.idx.toNat (word s.params.endian g0 g1 g2 g3) with idx := s.idx + 1 })

/-- REQUEST_CONFIG, N1 (R203): a frame request that returns to N2. -/
def execRequestConfig (s : State) : Answer := live s (.next (callFrame .n2a s))

end Sys2Proof.Machine
end

