-- ==== Sys2Proof/Machine/Sequencer.lean ====
section
/-! DEFINITION. The micro-ops every part of the sequencer shares (43_buffer_controller.md) and the frame request. -/
namespace Sys2Proof.Machine

/-- SUSPEND (R198). -/
def execSuspend (s : State) : Answer := live s (.next (advance { s with isrEn := false }))

/-- RESUME (R199). -/
def execResume (s : State) : Answer := live s (.next (advance { s with isrEn := true }))

/-- WAIT_DA (R182): it has a step only when `data_avail` is true; while it is false the sequencer is held and its turn
changes nothing (log 20). -/
def execWaitDa (s : State) : Answer := live s (.next (if s.dataAvail then advance s else s))

/-- CLEAR_DA (R162, R186). -/
def execClearDa (s : State) : Answer := live s (.next (advance (clearDataAvail s)))

/-- SIG_ASSERT (R165, R185). -/
def execSigAssert (s : State) : Answer := live s (.next (advance (assertSig s)))

/-- SIG_DEASSERT (R187): back to the caller of the frame request. -/
def execSigDeassert (s : State) : Answer := live s (.next (goto s.ret (deassertSig s)))

/-- LOAD_GRP, one micro-op of it: `grp[k] <- MemRead(BUF, a + k, 1)` (R163, R166, R188, R194). -/
def execLoadGrp (a : BitVec 10) (k : Fin 4) (s : State) : Answer :=
  live s <| match bufRead s (a.toNat + k.val) with
    | some b => .next (advance { s with grp := s.grp.put k b })
    | none => raise (.uninit .buf (a.toNat + k.val)) s

/-- REQUEST_FRAME (R201), entered with the label to return to. -/
def execRequestFrame (r : Label) (s : State) : Answer := live s (.next (callFrame r s))

end Sys2Proof.Machine
end

