-- ==== Sys2Proof/Machine/Wire.lean ====
section
/-! DEFINITION. The wire operations: the header dispatcher (40_byte_dispatch.md), the frame accumulator
(41_frame_accumulator.md) and the dropped exchange (60_exceptions.md). -/
namespace Sys2Proof.Machine

/-- HB_NOP (R124): the prefix and nothing else. -/
def execHbNop (s : State) : Answer := live s (.next (bytePrefix s))

/-- MSG_HDR (R125). -/
def execMsgHdr (s : State) : Answer :=
  live s (.next { bytePrefix s with pstate := .receivingMessage })

/-- CFG_HDR (R126). -/
def execCfgHdr (s : State) : Answer :=
  live s (.next { bytePrefix s with pstate := .receivingConfig })

/-- IGN (R127): the prefix and nothing else; the ignored byte leaves no trace (R223). -/
def execIgn (_rx : Byte) (s : State) : Answer := live s (.next (bytePrefix s))

/-- COLLECT_INIT (R142). -/
def execCollectInit (rx : Byte) (s : State) : Answer := live s (collect rx s)

/-- COLLECT_CFG (R144). -/
def execCollectCfg (rx : Byte) (s : State) : Answer := live s (collect rx s)

/-- COLLECT_MSG (R146). -/
def execCollectMsg (rx : Byte) (s : State) : Answer := live s (collect rx s)

/-- DROPPED (R229): no cell changes, the byte is lost, the controller receives a free value (log 4). -/
def execDropped (_rx : Byte) (s : State) : Answer :=
  live s (.next { emit (.tx (Config.freeTx s.draws)) s with draws := s.draws + 1 })

end Sys2Proof.Machine
end

