-- ==== Sys2Proof/Machine/Dispatch.lean ====
section
/-! DEFINITION. One arm per operation of R90. -/
namespace Sys2Proof.Machine

def exec (i : Instr) (s : State) : Host.Outcome State Fault Refusal :=
  match i with
  | .hbNop => Sys2Proof.Machine.execHbNop s
  | .msgHdr => Sys2Proof.Machine.execMsgHdr s
  | .cfgHdr => Sys2Proof.Machine.execCfgHdr s
  | .ign rx => Sys2Proof.Machine.execIgn rx s
  | .collectInit rx => Sys2Proof.Machine.execCollectInit rx s
  | .collectCfg rx => Sys2Proof.Machine.execCollectCfg rx s
  | .collectMsg rx => Sys2Proof.Machine.execCollectMsg rx s
  | .dropped rx => Sys2Proof.Machine.execDropped rx s
  | .beginCmd part => Sys2Proof.Machine.execBegin part s
  | .readCmd part => Sys2Proof.Machine.execRead part s
  | .lengthCmd => Sys2Proof.Machine.execLength s
  | .getCmd k => Sys2Proof.Machine.execGet k s
  | .suspend => Sys2Proof.Machine.execSuspend s
  | .resume => Sys2Proof.Machine.execResume s
  | .rearm => Sys2Proof.Machine.execRearm s
  | .sessionInit => Sys2Proof.Machine.execSessionInit s
  | .waitDa => Sys2Proof.Machine.execWaitDa s
  | .clearDa => Sys2Proof.Machine.execClearDa s
  | .sigAssert => Sys2Proof.Machine.execSigAssert s
  | .sigDeassert => Sys2Proof.Machine.execSigDeassert s
  | .loadGrp a k => Sys2Proof.Machine.execLoadGrp a k s
  | .checkSentinel => Sys2Proof.Machine.execCheckSentinel s
  | .checkAck => Sys2Proof.Machine.execCheckAck s
  | .latchCfg => Sys2Proof.Machine.execLatchCfg s
  | .checkCfg => Sys2Proof.Machine.execCheckCfg s
  | .realloc => Sys2Proof.Machine.execRealloc s
  | .allocSam => Sys2Proof.Machine.execAllocSam s
  | .storeSam => Sys2Proof.Machine.execStoreSam s
  | .connect => Sys2Proof.Machine.execConnect s
  | .requestFrame r => Sys2Proof.Machine.execRequestFrame r s
  | .requestConfig => Sys2Proof.Machine.execRequestConfig s

end Sys2Proof.Machine
end

