-- ==== Sys2Proof/WellFormed.lean ====
section
/-! DEFINITION. Which operand values an operation of R90 can carry. -/
namespace Sys2Proof

/-- The three defined header values (R92, R98). -/
def Config.isHeader (rx : Byte) : Bool :=
  rx == Config.document.hdrHeartbeat || rx == Config.document.hdrMessage || rx == Config.document.hdrConfig

/-- Well-formed operations: IGN is never one of the three headers (R93); a group of `GROUP_LEN` bytes starts at a multiple of
`WORD_BYTES` inside the largest buffer (R7, R67, R202); a frame request returns to the label after one of its three callers
(R201, R203); every byte is a legal payload (R99) and every integer an index (R105). -/
def Instr.wf : Instr → Bool
  | .ign rx => !Config.isHeader rx
  | .loadGrp a k =>
    a.toNat % Config.document.wordBytes == 0 && decide (a.toNat + Config.document.groupLen ≤ Config.document.bufMax) &&
      decide (k.val < Config.document.groupLen)
  | .requestFrame ret => ret == .h11a || ret == .n2a || ret == .a2
  | .hbNop => true
  | .msgHdr => true
  | .cfgHdr => true
  | .collectInit _ => true
  | .collectCfg _ => true
  | .collectMsg _ => true
  | .dropped _ => true
  | .beginCmd _ => true
  | .readCmd _ => true
  | .lengthCmd => true
  | .getCmd _ => true
  | .suspend => true
  | .resume => true
  | .rearm => true
  | .sessionInit => true
  | .waitDa => true
  | .clearDa => true
  | .sigAssert => true
  | .sigDeassert => true
  | .checkSentinel => true
  | .checkAck => true
  | .latchCfg => true
  | .checkCfg => true
  | .realloc => true
  | .allocSam => true
  | .storeSam => true
  | .connect => true
  | .requestConfig => true

end Sys2Proof
end

