-- ==== Sys2Proof/Decode.lean ====
section
/-! DEFINITION. Decoding a delivered or dropped exchange (R93), the encoder of the wire operations (R91, R92), and the
decoder as the opcode table numbers its bits. Commands and micro-ops have no encoding (R105). -/
namespace Sys2Proof

/-- The decoding algorithm of R93, total on every `(isr_en, pstate, rx)`. -/
def decode (isrEn : Bool) (pstate : PState) (rx : Byte) : Instr :=
  if isrEn then
    match pstate with
    | .init => .collectInit rx
    | .receivingConfig => .collectCfg rx
    | .receivingMessage => .collectMsg rx
    | .awaitingHeader =>
      if rx = Config.document.hdrHeartbeat then .hbNop
      else if rx = Config.document.hdrMessage then .msgHdr
      else if rx = Config.document.hdrConfig then .cfgHdr
      else .ign rx
  else .dropped rx

/-- The two-bit encoding of `pstate` where bits are needed (R21, D2); no operation exposes it. -/
def PState.code : PState → BitVec 2
  | .init => 0
  | .awaitingHeader => 1
  | .receivingConfig => 2
  | .receivingMessage => 3

/-- The byte of a wire operation on the link, format `B` (R91, R92); none for an operation without an encoding (R105). -/
def encode : Instr → Option Byte
  | .hbNop => some Config.document.hdrHeartbeat
  | .msgHdr => some Config.document.hdrMessage
  | .cfgHdr => some Config.document.hdrConfig
  | .ign rx => some rx
  | .collectInit rx => some rx
  | .collectCfg rx => some rx
  | .collectMsg rx => some rx
  | .dropped rx => some rx
  | .beginCmd _ => none
  | .readCmd _ => none
  | .lengthCmd => none
  | .getCmd _ => none
  | .suspend => none
  | .resume => none
  | .rearm => none
  | .sessionInit => none
  | .waitDa => none
  | .clearDa => none
  | .sigAssert => none
  | .sigDeassert => none
  | .loadGrp _ _ => none
  | .checkSentinel => none
  | .checkAck => none
  | .latchCfg => none
  | .checkCfg => none
  | .realloc => none
  | .allocSam => none
  | .storeSam => none
  | .connect => none
  | .requestFrame _ => none
  | .requestConfig => none

/-- The mode under which a wire operation's row of the dispatch table applies (R90, R92): `isr_en` and `pstate`. -/
def Instr.selectedIn (isrEn : Bool) (pstate : PState) : Instr → Bool
  | .hbNop | .msgHdr | .cfgHdr | .ign _ => isrEn && pstate == .awaitingHeader
  | .collectInit _ => isrEn && pstate == .init
  | .collectCfg _ => isrEn && pstate == .receivingConfig
  | .collectMsg _ => isrEn && pstate == .receivingMessage
  | .dropped _ => !isrEn
  | .beginCmd _ | .readCmd _ | .lengthCmd | .getCmd _ => false
  | .suspend | .resume | .rearm | .sessionInit | .waitDa | .clearDa | .sigAssert | .sigDeassert => false
  | .loadGrp _ _ | .checkSentinel | .checkAck | .latchCfg | .checkCfg | .realloc | .allocSam | .storeSam => false
  | .connect | .requestFrame _ | .requestConfig => false

/-- Why a word is no instruction of the table. -/
inductive DecodeRefusal where
  /-- The row has no encoding or the word is not one byte wide: the only format is `B` (R91, R105). -/
  | notOneByte
  /-- The word has bits above its byte. -/
  | bitsAboveTheByte
deriving DecidableEq, Repr

/-- The decoder on a word of `nbits` bits as the opcode table numbers them, in the header mode (delivery on, AwaitingHeader):
the only mode in which the byte itself names its operation (R91). Total: what is not one byte is refused by name (log 23). -/
def decodeWord (nbits w : Nat) : Except DecodeRefusal Instr :=
  if nbits = 8 then
    if w < 256 then .ok (decode true .awaitingHeader (BitVec.ofNat 8 w)) else .error .bitsAboveTheByte
  else .error .notOneByte

/-- `decodeWord` as the host asks for it (log 23). -/
def decodeTableWord (nbits w : Nat) : Option Instr :=
  match decodeWord nbits w with
  | .ok i => some i
  | .error _ => none

end Sys2Proof
end

