-- ==== Sys2Proof/Machine/Fetch.lean ====
section
/-! DEFINITION. What the machine runs next: the next move of the environment and the schedule (R9, R72), the operation it
selects (R93, R180, R181, R183), and the reset event (R260). -/
namespace Sys2Proof.Machine

/-- The next move and the state without it: the head of `script` (log 1), or a free value where nothing is listed (log 2). -/
def takeMove (s : State) : Move × State :=
  match s.script with
  | m :: rest => (m, { s with script := rest })
  | [] => (Config.freeMove s.draws, { s with draws := s.draws + 1 })

/-- The operation of a command of the port (R42, R183). -/
def commandInstr : Command → Instr
  | .begin_ => .beginCmd .command
  | .read => .readCmd .command
  | .length => .lengthCmd
  | .get i => .getCmd i

/-- The micro-op at a label, R181; at IDLE the sequencer has none (R180). H1 to H3, H9a to H9c and N5 to N7 are SUSPEND, the
write, RESUME (R160, R191, log 14); N9 and A6 are the completions of BEGIN and READ (R193, R195). -/
def microInstr (s : State) : Option Instr :=
  match s.seqPc with
  | .idle => none
  | .b1 | .h1 | .h9a | .n5 => some .suspend
  | .b2 => some .sessionInit
  | .b3 | .h3 | .h9c | .n7 => some .resume
  | .h2 | .h9b => some .rearm
  | .h4 | .f2 => some .waitDa
  | .h5 | .f3 => some .clearDa
  | .h6a | .h11a | .n2a => some (.loadGrp 0 0)
  | .h6b | .h11b | .n2b => some (.loadGrp 0 1)
  | .h6c | .h11c | .n2c => some (.loadGrp 0 2)
  | .h6d | .h11d | .n2d => some (.loadGrp 0 3)
  | .h7 => some .checkSentinel
  | .h8 | .f1 => some .sigAssert
  | .h10 => some (.requestFrame .h11a)
  | .h12 => some .checkAck
  | .n1 => some .requestConfig
  | .n3 => some .latchCfg
  | .n4 => some .checkCfg
  | .n6 => some .realloc
  | .n8 => some .allocSam
  | .n9 => some (.beginCmd .complete)
  | .f4 => some .sigDeassert
  | .a1 => some (.requestFrame .a2)
  | .a2 => some (.readCmd .clearIdx)
  | .a3 => some (.readCmd .loopTest)
  | .a4a => some (.loadGrp (groupBase s.idx) 0)
  | .a4b => some (.loadGrp (groupBase s.idx) 1)
  | .a4c => some (.loadGrp (groupBase s.idx) 2)
  | .a4d => some (.loadGrp (groupBase s.idx) 3)
  | .a5 => some .storeSam
  | .a6 => some (.readCmd .complete)

/-- The operation a move selects; a reset is no operation, and a turn of the sequencer at IDLE selects none. -/
def fetch (m : Move) (s : State) : Option Instr :=
  match m with
  | .rx b => some (decode s.isrEn s.pstate b)
  | .cmd c => some (commandInstr c)
  | .seq => microInstr s
  | .reset => none

/-- The reset event (R260): every cell of R20 at its value of R45, with `hb` at `HB_RESET`; the parameters, the environment's
moves, the draws and the outputs already made stay (log 27). -/
def resetCells (s : State) : State :=
  { State.reset with
    hb := s.params.hbReset, params := s.params, script := s.script, draws := s.draws, out := s.out }

/-- Place one instruction word where the next step fetches (log 23): the exchange of that byte becomes the next move, in the
header mode that `decodeWord` reads it in (delivery on, AwaitingHeader, no fault recorded). A word that decodes to nothing
changes nothing. -/
def placeWord (s : State) (nbits w : Nat) : State :=
  match decodeTableWord nbits w with
  | some _ =>
    { s with
      isrEn := true, pstate := .awaitingHeader, fault := none,
      script := .rx (BitVec.ofNat 8 w) :: s.script }
  | none => s

end Sys2Proof.Machine
end

