-- ==== Sys2Proof/Machine/Step.lean ====
section
/-! DEFINITION. One step of the block: one atomic unit of R68, chosen by the next move (R72). -/
namespace Sys2Proof.Machine

/-- One move: a reset (R260), or the operation the move selects (R93, R181, R183) on a machine that has not stopped (R246).
A turn of the sequencer that has no micro-op changes nothing more (log 20). -/
def stepMove (m : Move) (s : State) : Host.Outcome State Fault Refusal :=
  if m = .reset then .next (resetCells s)
  else live s <|
    match fetch m s with
    | some i => exec i s
    | none => .next s

/-- One step of the block. -/
def step (s : State) : Host.Outcome State Fault Refusal :=
  stepMove (takeMove s).1 (takeMove s).2

/-- `s` with one instruction word placed where `step` fetches next (log 23). -/
def State.withFetchWord (s : State) (nbits w : Nat) : State := placeWord s nbits w

end Sys2Proof.Machine
end

