-- ==== Sys2Proof/Safety.lean ====
section
/-! DEFINITION. What counts as a sound state of the block: the invariants the spec states (R28, R36, R125, R142, R193) and
what they need of the micro-program's position to be kept by every step from every sound state. -/
namespace Sys2Proof.Machine

/-- Which part of a session a position of the sequencer belongs to; the frame request belongs to its caller, told by `ret`. -/
inductive Phase where
  /-- IDLE, B1, B2. -/
  | rest
  /-- B3 to N6, and a frame request made there: the buffer has its first length (R23). -/
  | handshake
  /-- N7, N8: the buffer has its negotiated length, the sample array not yet (R191). -/
  | resized
  /-- N9: both have (R192). -/
  | sized
  /-- A1 to A6, and a frame request made there (R194). -/
  | reading
  /-- A frame request that returns to no caller's label: no run reaches it. -/
  | stray
deriving DecidableEq, Repr

/-- The phase of a position `(seq_pc, ret)`. -/
def phaseOf (l ret : Label) : Phase :=
  match l with
  | .idle | .b1 | .b2 => .rest
  | .b3 | .h1 | .h2 | .h3 | .h4 | .h5 | .h6a | .h6b | .h6c | .h6d | .h7 | .h8 | .h9a | .h9b | .h9c | .h10
  | .h11a | .h11b | .h11c | .h11d | .h12 | .n1 | .n2a | .n2b | .n2c | .n2d | .n3 | .n4 | .n5 | .n6 => .handshake
  | .n7 | .n8 => .resized
  | .n9 => .sized
  | .a1 | .a2 | .a3 | .a4a | .a4b | .a4c | .a4d | .a5 | .a6 => .reading
  | .f1 | .f2 | .f3 | .f4 =>
    match ret with
    | .h11a | .n2a => .handshake
    | .a2 => .reading
    | _ => .stray

/-- Where delivery is on (R30, R74, R261): off inside the three windows and before the first `begin`, on elsewhere. -/
def deliveryAt (l : Label) (session : Session) : Bool :=
  match l with
  | .idle | .b1 => session == .up
  | .b2 | .b3 | .h2 | .h3 | .h9b | .h9c | .n6 | .n7 => false
  | _ => true

/-- Where a frame has completed since Init was last entered, so that `pstate` has left Init (R92, R170). -/
def pastWait (hsAckRearm : Bool) (l ret : Label) : Bool :=
  match l with
  | .idle | .b1 | .b2 | .b3 | .h1 | .h2 | .h3 | .h4 | .h9c => false
  | .h10 => !hsAckRearm
  | .f1 | .f2 => ret != .h11a || !hsAckRearm
  | _ => true

/-- Where the handshake reads the whole first buffer: a frame has filled it (R65, R163). -/
def readsWholeBuffer (l : Label) : Bool :=
  match l with
  | .h5 | .h6a | .h6b | .h6c | .h6d | .f3 | .f4 | .h11a | .h11b | .h11c | .h11d | .n2a | .n2b | .n2c | .n2d => true
  | _ => false

/-- How many latches of `grp` the loads before a label have filled (R163, R166, R188, R194). -/
def latchesFilled (l : Label) : Nat :=
  match l with
  | .h6b | .h11b | .n2b | .a4b => 1
  | .h6c | .h11c | .n2c | .a4c => 2
  | .h6d | .h11d | .n2d | .a4d => 3
  | .h7 | .h12 | .n3 | .a5 => 4
  | _ => 0

/-- Where a READ is decoding one sample (R194, R195). -/
def decodesSample (l : Label) : Bool :=
  match l with
  | .a4a | .a4b | .a4c | .a4d | .a5 => true
  | _ => false

/-- The lengths a completed negotiation leaves (R36 (e), R189, R191): one float sample or more, four bytes each. -/
def State.negotiated (s : State) : Prop :=
  s.dataType = Config.document.dtFloat ∧ s.sampleCount ≠ 0 ∧ s.bufLen.toNat = 4 * s.sampleCount.toNat

/-- What holds of the session's cells in each phase. -/
def State.phaseSound (s : State) : Prop :=
  match phaseOf s.seqPc s.ret with
  | .rest =>
    s.samLen = s.sampleCount ∧
      (s.session = .up → s.negotiated ∧ s.pstate ≠ .init) ∧ (s.session = .down → s.bufLen.toNat = 4)
  | .handshake =>
    s.session = .down ∧ s.bufLen.toNat = 4 ∧ s.samLen = 0 ∧
      (s.seqPc = .n5 ∨ s.seqPc = .n6 → s.dataType = Config.document.dtFloat ∧ s.sampleCount ≠ 0)
  | .resized => s.session = .down ∧ s.negotiated ∧ s.samLen = 0
  | .sized => s.session = .down ∧ s.negotiated ∧ s.samLen = s.sampleCount
  | .reading =>
    s.session = .up ∧ s.negotiated ∧ s.samLen = s.sampleCount ∧
      (s.seqPc = .a3 → s.idx.toNat ≤ s.sampleCount.toNat) ∧
      (decodesSample s.seqPc → s.idx.toNat < s.sampleCount.toNat)
  | .stray => False

/-- A sound state. The cell `fault` is not constrained: raising a fault leaves the other cells sound. -/
structure State.Inv (s : State) : Prop where
  /-- `BUF` keeps its canonical form, inside its length (R60). -/
  bufWf : Memory.wf s.buf = true
  bufInside : ∀ a b, Memory.read s.buf a = some b → a < s.bufLen.toNat
  /-- `SAM` keeps its canonical form, inside its length (R61). -/
  samWf : Memory.wf s.samples = true
  samInside : ∀ i w, Memory.read s.samples i = some w → i < s.samLen.toNat
  /-- `buf_len` is a multiple of 4 from 4 to 1020 (R23, R36 (a)). -/
  lenLow : 4 ≤ s.bufLen.toNat
  lenHigh : s.bufLen.toNat ≤ 1020
  lenWords : s.bufLen.toNat % 4 = 0
  /-- `0 ≤ pos < buf_len` (R22, R36 (b)). -/
  posInside : s.pos.toNat < s.bufLen.toNat
  /-- AwaitingHeader is entered only by a wrap (R125). -/
  headerAtZero : s.pstate = .awaitingHeader → s.pos = 0
  /-- In Init no frame has completed (R143, R160). -/
  initNoFrame : s.pstate = .init → s.dataAvail = false
  /-- Delivery follows the micro-program (R30). -/
  delivery : s.isrEn = deliveryAt s.seqPc s.session
  /-- The labels H9a to H9c exist only under `HS_ACK_REARM` (R181). -/
  rearmLabels : s.params.hsAckRearm = false → s.seqPc ≠ .h9a ∧ s.seqPc ≠ .h9b ∧ s.seqPc ≠ .h9c
  /-- The lengths agree, phase by phase (R28, R36 (e)). -/
  phase : s.phaseSound
  /-- Past a wait, Init has been left (R142 (c), R170). -/
  leftInit : pastWait s.params.hsAckRearm s.seqPc s.ret = true → s.pstate ≠ .init
  /-- In the handshake every cell below `pos` is written, and all four once a frame is signalled or is being read
  (R65, R73). -/
  filled : phaseOf s.seqPc s.ret = .handshake →
    (∀ a, a < s.pos.toNat → (Memory.read s.buf a).isSome) ∧
      (s.dataAvail = true ∨ readsWholeBuffer s.seqPc = true → ∀ a, a < 4 → (Memory.read s.buf a).isSome)
  /-- The latches a check or a store reads are written (R29). -/
  latches : ∀ k : Fin 4, k.val < latchesFilled s.seqPc → (s.grp.get k).isSome

/-- The faults that a sound state can raise (R220): not PosRange (R228), no unwritten latch, and no unwritten byte of the
buffer outside the decode loop of READ (R65, R275). -/
def Fault.possibleFrom (s : State) : Fault → Prop
  | .badDataType t => s.seqPc = .n4 ∧ t = s.dataType
  | .zeroSampleCount => s.seqPc = .n4
  | .indexRange i len => s.seqPc = .idle ∧ len = s.samLen ∧ (i < 0 ∨ (len.toNat : Int) ≤ i)
  | .posRange _ _ => False
  | .allocFail len => s.seqPc = .n6 ∧ allocFails s.params len = true
  | .uninit .buf _ => s.seqPc = .a4a ∨ s.seqPc = .a4b ∨ s.seqPc = .a4c ∨ s.seqPc = .a4d
  | .uninit .sam _ => s.seqPc = .idle
  | .uninit .grp _ => False

/-- `k` steps in a row (R264): a run of the block, which ends early where a step answers no next state. -/
def run : Nat → State → Host.Outcome State Fault Refusal
  | 0, s => .next s
  | k + 1, s =>
    match step s with
    | .next t => run k t
    | .fault f => .fault f
    | .refused r => .refused r

/-- The bytes sent on the link, newest first, among the outputs (R40, R121). -/
def sentBytes (out : List Output) : List Byte :=
  out.filterMap fun o => match o with
    | .tx b => some b
    | .done _ => none
    | .length _ => none
    | .sample _ => none
    | .refused _ => none

/-- The outputs of `n` exchanges whose `k`th byte sent is `f k`, newest first (R121). -/
def outputsOf (f : Nat → Byte) : Nat → List Output
  | 0 => []
  | n + 1 => .tx (f n) :: outputsOf f n

/-- The rows of R181 whose micro-op does not depend on the sample index: label and micro-op. -/
def programRows : List (Label × Instr) :=
  [(.b1, .suspend), (.b2, .sessionInit), (.b3, .resume), (.h1, .suspend), (.h2, .rearm), (.h3, .resume),
   (.h4, .waitDa), (.h5, .clearDa), (.h6a, .loadGrp 0 0), (.h6b, .loadGrp 0 1), (.h6c, .loadGrp 0 2),
   (.h6d, .loadGrp 0 3), (.h7, .checkSentinel), (.h8, .sigAssert), (.h9a, .suspend), (.h9b, .rearm),
   (.h9c, .resume), (.h10, .requestFrame .h11a), (.h11a, .loadGrp 0 0), (.h11b, .loadGrp 0 1),
   (.h11c, .loadGrp 0 2), (.h11d, .loadGrp 0 3), (.h12, .checkAck)] ++
  [(.n1, .requestConfig), (.n2a, .loadGrp 0 0), (.n2b, .loadGrp 0 1), (.n2c, .loadGrp 0 2), (.n2d, .loadGrp 0 3),
   (.n3, .latchCfg), (.n4, .checkCfg), (.n5, .suspend), (.n6, .realloc), (.n7, .resume), (.n8, .allocSam),
   (.n9, .beginCmd .complete), (.f1, .sigAssert), (.f2, .waitDa), (.f3, .clearDa), (.f4, .sigDeassert),
   (.a1, .requestFrame .a2), (.a2, .readCmd .clearIdx), (.a3, .readCmd .loopTest), (.a5, .storeSam),
   (.a6, .readCmd .complete)]

/-- The column "then" of R181 as pairs of labels: every way a turn of the sequencer can go that raises no fault. A wait can
stay where it is; F4, which goes to `ret`, is not listed. -/
def programEdges : List (Label × Label) :=
  [(.b1, .b2), (.b2, .b3), (.b3, .h1), (.h1, .h2), (.h2, .h3), (.h3, .h4), (.h4, .h4), (.h4, .h5), (.h5, .h6a),
   (.h6a, .h6b), (.h6b, .h6c), (.h6c, .h6d), (.h6d, .h7), (.h7, .h8), (.h7, .h1), (.h8, .h10), (.h8, .h9a),
   (.h9a, .h9b), (.h9b, .h9c), (.h9c, .h10), (.h10, .f1), (.h11a, .h11b), (.h11b, .h11c), (.h11c, .h11d),
   (.h11d, .h12), (.h12, .n1), (.h12, .h1)] ++
  [(.n1, .f1), (.n2a, .n2b), (.n2b, .n2c), (.n2c, .n2d), (.n2d, .n3), (.n3, .n4), (.n4, .n5), (.n5, .n6), (.n6, .n7),
   (.n7, .n8), (.n8, .n9), (.n9, .idle), (.f1, .f2), (.f2, .f2), (.f2, .f3), (.f3, .f4), (.a1, .f1), (.a2, .a3),
   (.a3, .a6), (.a3, .a4a), (.a4a, .a4b), (.a4b, .a4c), (.a4c, .a4d), (.a4d, .a5), (.a5, .a3), (.a6, .idle)]

/-- The cells of R20 at the values of R45, `hb` apart (R260). -/
def State.atReset (s : State) : Prop :=
  s.pstate = .init ∧ s.pos = 0 ∧ s.bufLen = 4 ∧ (∀ a, bufRead s a = none) ∧ s.dataAvail = false ∧
    s.dataType = 0 ∧ s.sampleCount = 0 ∧ s.rsv0 = 0 ∧ s.rsv1 = 0 ∧ s.samLen = 0 ∧ (∀ i, samRead s i = none) ∧
    s.isrEn = false ∧ s.session = .down ∧ s.seqPc = .idle ∧ s.ret = .idle ∧
    (∀ k, s.grp.get k = none) ∧ s.idx = 0 ∧ s.sig = .deasserted ∧ s.fault = none

end Sys2Proof.Machine
end

