-- ==== Sys2Proof/Certificates/Slice0/Obligations.lean ====
section
/-! DEFINITION. The statements for the provers, from the numbered rules of spec/. Where a clause rests on the spec's own
decision (D<n>) or on a choice of the model, its docstring says so. A conclusion of the form `exec i s = .next (a record
over s)` is the instruction's result, its frame and its completion in one. -/
open Sys2Proof Sys2Proof.Machine

/-! ### Reset, steps, soundness -/

/-- R45, R260: the reset event, from every state, faulted ones included (R246). The values are the spec's decisions D2, D3,
D15, D18, D20, D21, D34, D35 but for `buf_len`; that the script and the parameters stay is the model's choice (log 27). -/
def Obligations.ResetEventRestoresEveryCell : Prop :=
  ∀ (s : State) (rest : List Move), s.script = .reset :: rest →
    ∃ t, step s = .next t ∧ t.atReset ∧ t.hb = s.params.hbReset ∧ t.params = s.params ∧ t.script = rest

/-- R36, R45: the reset state is sound, and its cells hold the reset values (the spec's decisions, log 24), `hb` that of the
parameter `HB_RESET` (log 5). -/
def Obligations.ResetStateIsSound : Prop :=
  State.reset.Inv ∧ State.reset.atReset ∧ State.reset.hb = State.reset.params.hbReset

/-- R22, R23, R28, R36, R125, R142, R170: every step from a sound state leaves a sound state. The form of the lists is the
model's (log 11). -/
def Obligations.EveryStepKeepsTheInvariant : Prop :=
  ∀ s t : State, s.Inv → step s = .next t → t.Inv

/-- R93, R120, R229: an exchange runs the operation that `isr_en`, `pstate` and the byte decode to. The queue of moves is the
model's (log 1). -/
def Obligations.StepRunsTheDecodedExchange : Prop :=
  ∀ (s : State) (b : Byte) (rest : List Move), s.fault = none → s.script = .rx b :: rest →
    step s = exec (decode s.isrEn s.pstate b) { s with script := rest }

/-- R42, R180, R183: a command runs its operation; a turn of the sequencer runs the micro-op at `seq_pc`, and at IDLE, where
there is none, changes nothing. The queue of moves is the model's (log 1). -/
def Obligations.StepRunsTheCommandOrMicroOp : Prop :=
  (∀ (s : State) (c : Command) (rest : List Move), s.fault = none → s.script = .cmd c :: rest →
    step s = exec (commandInstr c) { s with script := rest }) ∧
  (∀ (s : State) (i : Instr) (rest : List Move), s.fault = none → s.script = .seq :: rest → microInstr s = some i →
    step s = exec i { s with script := rest }) ∧
  (∀ (s : State) (rest : List Move), s.fault = none → s.script = .seq :: rest → s.seqPc = .idle →
    step s = .next { s with script := rest })

/-- V7 of 93_implementation_defined: where nothing is placed, the next move is a free value (log 2); the statement holds for
every value of it. -/
def Obligations.UnplacedMoveIsFree : Prop :=
  ∀ s : State, s.script = [] →
    step s = step { s with script := [Config.freeMove s.draws], draws := s.draws + 1 }

/-- R181: the micro-op at every label, and the label it goes to. -/
def Obligations.SequencerFollowsTheProgram : Prop :=
  (∀ (s : State) (p : Label × Instr), p ∈ programRows → s.seqPc = p.1 → microInstr s = some p.2) ∧
  (∀ (s : State) (p : Label × Fin 4), p ∈ [(Label.a4a, 0), (.a4b, 1), (.a4c, 2), (.a4d, 3)] → s.seqPc = p.1 →
    ∃ a : BitVec 10, microInstr s = some (.loadGrp a p.2) ∧ a.toNat = 4 * s.idx.toNat) ∧
  (∀ s : State, s.seqPc = .idle → microInstr s = none) ∧
  (∀ (s t : State) (i : Instr), microInstr s = some i → exec i s = .next t → t.fault = none →
    (s.seqPc = .f4 ∧ t.seqPc = s.ret) ∨ (s.seqPc, t.seqPc) ∈ programEdges) ∧
  (∀ (s t : State) (i : Instr), s.seqPc = .h8 → microInstr s = some i → exec i s = .next t →
    t.seqPc = if s.params.hsAckRearm then .h9a else .h10)

/-- R246 (D35): a machine with a recorded fault has no step; only the reset event is left to it. -/
def Obligations.FaultedMachineHasNoStep : Prop :=
  (∀ (i : Instr) (s : State) (f : Fault), s.fault = some f → exec i s = .fault f) ∧
  (∀ (s : State) (f : Fault) (m : Move) (rest : List Move), s.fault = some f → s.script = m :: rest → m ≠ .reset →
    step s = .fault f)

/-- R220, R228, R231, R163: what a sound machine can raise, and where; never PosRange, never an unwritten latch, and no
unwritten buffer byte outside the decode loop (R275). -/
def Obligations.SoundMachineRaisesOnlyTheseFaults : Prop :=
  ∀ (s t : State) (f : Fault), s.Inv → s.fault = none → step s = .next t → t.fault = some f → f.possibleFrom s

/-- R8, R62: no step changes a parameter; the byte order cannot be switched at run time. -/
def Obligations.ParametersNeverChange : Prop :=
  ∀ s t : State, step s = .next t → t.params = s.params

/-! ### The byte machine -/

/-- R124, R127: a poll and an ignored header, which bytes they are, and their only effects: the controller receives `hb` and
`hb` counts up; nothing else changes. -/
def Obligations.PollAndIgnoredHeaderOnlyBeat : Prop :=
  ∀ s : State, s.fault = none → s.pstate = .awaitingHeader →
    decode true s.pstate 0x10 = .hbNop ∧
    exec .hbNop s = .next { s with hb := s.hb + 1, out := .tx s.hb :: s.out } ∧
    ∀ rx : Byte,
      (rx ≠ 0x10 → rx ≠ 0x20 → rx ≠ 0x30 → decode true s.pstate rx = .ign rx) ∧
      exec (.ign rx) s = .next { s with hb := s.hb + 1, out := .tx s.hb :: s.out }

/-- R125, R126: a frame header changes `pstate` beside the heartbeat; `pos` and `data_avail` are not touched. -/
def Obligations.FrameHeaderStartsCollecting : Prop :=
  ∀ s : State, s.fault = none → s.pstate = .awaitingHeader →
    decode true s.pstate 0x20 = .msgHdr ∧ decode true s.pstate 0x30 = .cfgHdr ∧
    exec .msgHdr s =
      .next { s with pstate := .receivingMessage, hb := s.hb + 1, out := .tx s.hb :: s.out } ∧
    exec .cfgHdr s =
      .next { s with pstate := .receivingConfig, hb := s.hb + 1, out := .tx s.hb :: s.out }

/-- R121, R122, R141: a payload byte that does not complete the frame, in each collecting state. -/
def Obligations.PayloadByteIsStored : Prop :=
  ∀ (s : State) (rx : Byte) (i : Instr), s.fault = none → s.pos.toNat + 1 < s.bufLen.toNat →
    (i = .collectInit rx ∧ s.pstate = .init ∨ i = .collectCfg rx ∧ s.pstate = .receivingConfig ∨
      i = .collectMsg rx ∧ s.pstate = .receivingMessage) →
    ∃ t, exec i s = .next t ∧
      (∀ a, bufRead t a = if a = s.pos.toNat then some rx else bufRead s a) ∧
      t = { s with
        buf := t.buf, pos := s.pos + 1, hb := if s.pstate = .init then s.hb - 1 else s.hb + 1,
        out := .tx s.hb :: s.out }

/-- R121, R122, R143: the payload byte that completes the frame, in each collecting state (`buf_len` at most 1020, R23). -/
def Obligations.LastPayloadByteWraps : Prop :=
  ∀ (s : State) (rx : Byte) (i : Instr), s.fault = none → s.pos.toNat + 1 = s.bufLen.toNat → s.bufLen.toNat ≤ 1020 →
    (i = .collectInit rx ∧ s.pstate = .init ∨ i = .collectCfg rx ∧ s.pstate = .receivingConfig ∨
      i = .collectMsg rx ∧ s.pstate = .receivingMessage) →
    ∃ t, exec i s = .next t ∧
      (∀ a, bufRead t a = if a = s.pos.toNat then some rx else bufRead s a) ∧
      t = { s with
        buf := t.buf, pos := 0, dataAvail := true, pstate := .awaitingHeader,
        hb := if s.pstate = .init then s.hb - 1 else s.hb + 1, out := .tx s.hb :: s.out }

/-- R63, R141, R228 (D6): the guard of the payload step. That the prefix is not run either is the model's reading
(log 13). -/
def Obligations.PayloadOutsideTheBufferFaults : Prop :=
  ∀ (s : State) (rx : Byte) (i : Instr), s.fault = none → s.bufLen.toNat ≤ s.pos.toNat →
    i ∈ [.collectInit rx, .collectCfg rx, .collectMsg rx] →
    exec i s = .next { s with fault := some (.posRange s.pos s.bufLen) }

/-- R229 (D9): a dropped exchange changes no cell; the byte the controller receives is a free value (log 4), and the
statement holds for every value of it. -/
def Obligations.DroppedExchangeChangesNothing : Prop :=
  ∀ (s : State) (rx : Byte), s.fault = none →
    exec (.dropped rx) s =
      .next { s with out := .tx (Config.freeTx s.draws) :: s.out, draws := s.draws + 1 }

/-- R129: the difference of the outgoing bytes of two consecutive delivered exchanges tells whether the first found the
byte machine in Init, whatever turns of the sequencer and commands come between them. -/
def Obligations.HeartbeatDirectionShowsInit : Prop :=
  ∀ (s : State) (a b : Byte) (between rest : List Move), s.Inv → s.fault = none → s.isrEn = true →
    (∀ m ∈ between, m = .seq ∨ ∃ c, m = .cmd c) → s.script = .rx a :: between ++ .rx b :: rest →
    ∃ t x, step s = .next t ∧ t.out = .tx x :: s.out ∧
      ∀ u, run between.length t = .next u → u.fault = none → u.isrEn = true →
        ∃ v y, step u = .next v ∧ v.out = .tx y :: u.out ∧ y - x = if s.pstate = .init then 0xFF else 0x01

/-- R120, R239: an exchange, delivered or dropped, leaves every cell of the sequencer as it was. -/
def Obligations.ExchangeLeavesTheSequencerAlone : Prop :=
  ∀ (s t : State) (b : Byte) (rest : List Move), s.script = .rx b :: rest → step s = .next t →
    t.seqPc = s.seqPc ∧ t.ret = s.ret ∧ t.grp = s.grp ∧ t.idx = s.idx ∧ t.sig = s.sig ∧ t.dataType = s.dataType ∧
    t.sampleCount = s.sampleCount ∧ t.rsv0 = s.rsv0 ∧ t.rsv1 = s.rsv1 ∧ t.samLen = s.samLen ∧
    t.samples = s.samples ∧ t.isrEn = s.isrEn ∧ t.session = s.session ∧ t.bufLen = s.bufLen

/-- R25, R40, R260: a command and a micro-op neither move the heartbeat nor send a byte on the link; the reset event sends
none either, and puts `hb` at `HB_RESET`. So only exchanges send, and only exchanges and the reset event write `hb`. -/
def Obligations.OnlyExchangesAndResetWriteTheHeartbeat : Prop :=
  ∀ (s t : State) (m : Move) (rest : List Move), (∀ b, m ≠ .rx b) → s.script = m :: rest → step s = .next t →
    t.hb = (if m = .reset then s.params.hbReset else s.hb) ∧ sentBytes t.out = sentBytes s.out

/-- R36 (d), R123: an exchange takes the byte machine out of AwaitingHeader only on one of the two frame headers. -/
def Obligations.HeaderStateIsLeftOnlyByAFrameHeader : Prop :=
  ∀ (s t : State) (b : Byte) (rest : List Move), s.pstate = .awaitingHeader → s.script = .rx b :: rest →
    step s = .next t → t.pstate ≠ .awaitingHeader →
    s.isrEn = true ∧ (b = 0x20 ∧ t.pstate = .receivingMessage ∨ b = 0x30 ∧ t.pstate = .receivingConfig)

/-- R24, R143: `data_avail` becomes true only in a delivered exchange that stores the last byte of a frame. -/
def Obligations.FrameFlagIsSetOnlyByAWrap : Prop :=
  ∀ (s t : State) (m : Move) (rest : List Move), s.Inv → s.script = m :: rest → step s = .next t →
    s.dataAvail = false → t.dataAvail = true →
    (∃ b, m = .rx b) ∧ s.isrEn = true ∧ s.pstate ≠ .awaitingHeader ∧ s.pos.toNat + 1 = s.bufLen.toNat ∧
      t.pos = 0 ∧ t.pstate = .awaitingHeader

/-- R94, R95, R121, R143: a frame under either header. The flag stays clear until its last byte and is set with it; then the
buffer holds the payload, the heartbeat has been sent with every byte, and everything outside the byte machine is as
before. -/
def Obligations.FramedPayloadIsCollected : Prop :=
  ∀ (s : State) (hdr : Byte) (payload : List Byte) (rest : List Move), s.Inv → s.fault = none → s.isrEn = true →
    s.pstate = .awaitingHeader → s.dataAvail = false → (hdr = 0x20 ∨ hdr = 0x30) →
    payload.length = s.bufLen.toNat → s.script = .rx hdr :: payload.map Move.rx ++ rest →
    (∀ k, k < payload.length → ∃ t, run (1 + k) s = .next t ∧ t.dataAvail = false ∧ t.pos.toNat = k) ∧
    ∃ t, run (1 + payload.length) s = .next t ∧ (∀ a, a < payload.length → bufRead t a = payload[a]?) ∧
      t = { s with
        buf := t.buf, dataAvail := true, hb := s.hb + BitVec.ofNat 8 (1 + payload.length), script := rest,
        out := outputsOf (fun k => s.hb + BitVec.ofNat 8 k) (1 + payload.length) ++ s.out }

/-- R101, R121: the outgoing byte and the counter do not depend on the received byte. -/
def Obligations.HeartbeatIgnoresTheReceivedByte : Prop :=
  ∀ (s t u : State) (b c : Byte) (rest : List Move), s.Inv → s.isrEn = true →
    step { s with script := .rx b :: rest } = .next t → step { s with script := .rx c :: rest } = .next u →
    t.hb = u.hb ∧ t.out = u.out ∧ t.out = .tx s.hb :: s.out

/-! ### Commands -/

/-- R183: `begin` and `read` at IDLE; `read` needs the session up. That a refused command leaves a mark among the outputs is
the model's (log 18); NotReady is the spec's decision D18. -/
def Obligations.BeginAndReadAtIdle : Prop :=
  ∀ s : State, s.fault = none → s.seqPc = .idle →
    exec (.beginCmd .command) s = .next { s with seqPc := .b1 } ∧
    (s.session = .up → exec (.readCmd .command) s = .next { s with seqPc := .a1 }) ∧
    (s.session = .down → exec (.readCmd .command) s = .next { s with out := .refused .notReady :: s.out })

/-- R183, R234 (D18): a command while another runs changes no cell; the mark among the outputs is the model's (log 18). -/
def Obligations.BusyCommandsAreTurnedAway : Prop :=
  ∀ (s : State) (c : Command), s.fault = none → s.seqPc ≠ .idle →
    exec (commandInstr c) s = .next { s with out := .refused .busy :: s.out }

/-- R200: `length` returns `sample_count` and writes nothing. -/
def Obligations.LengthReturnsTheSampleCount : Prop :=
  ∀ s : State, s.fault = none → s.seqPc = .idle →
    exec .lengthCmd s = .next { s with out := .length s.sampleCount.toNat :: s.out }

/-- R197: `get` in range on a written cell returns the cell and writes nothing. -/
def Obligations.GetReturnsTheSample : Prop :=
  ∀ (s : State) (i : Nat) (w : Sample), s.fault = none → s.seqPc = .idle → i < s.samLen.toNat →
    samRead s i = some w → exec (.getCmd i) s = .next { s with out := .sample w :: s.out }

/-- R197, R226, R231, R238 (D17, D25, D26): `get` out of range, then `get` of an unwritten cell. -/
def Obligations.GetOutOfRangeOrUnwrittenFaults : Prop :=
  (∀ (s : State) (i : Int), s.fault = none → s.seqPc = .idle → (i < 0 ∨ (s.samLen.toNat : Int) ≤ i) →
    exec (.getCmd i) s = .next { s with fault := some (.indexRange i s.samLen) }) ∧
  (∀ (s : State) (i : Nat), s.fault = none → s.seqPc = .idle → i < s.samLen.toNat → samRead s i = none →
    exec (.getCmd i) s = .next { s with fault := some (.uninit .sam i) })

/-- R193: `begin` completes with true. -/
def Obligations.BeginCompletesWithTrue : Prop :=
  ∀ s : State, s.fault = none →
    exec (.beginCmd .complete) s =
      .next { s with session := .up, seqPc := .idle, out := .done true :: s.out }

/-- R194, R195: the steps of `read` at A2, A3 and A6. -/
def Obligations.ReadLoopSteps : Prop :=
  ∀ s : State, s.fault = none →
    exec (.readCmd .clearIdx) s = .next { s with idx := 0, seqPc := .a3 } ∧
    (s.idx = s.sampleCount → exec (.readCmd .loopTest) s = .next { s with seqPc := .a6 }) ∧
    (s.idx ≠ s.sampleCount → exec (.readCmd .loopTest) s = .next { s with seqPc := .a4a }) ∧
    exec (.readCmd .complete) s = .next { s with seqPc := .idle, out := .done true :: s.out }

/-! ### The shared micro-ops -/

/-- R198, R199: `isr_en`, and what that does to the exchanges that follow. The label is R181's at the micro-op's own labels;
that it is the following label at every other one too is the model's choice (log 17). -/
def Obligations.SuspendAndResumeGateDelivery : Prop :=
  ∀ s : State, s.fault = none →
    (∃ t, exec .suspend s = .next t ∧
      t = { s with isrEn := false, seqPc := Label.succ s.params.hsAckRearm s.seqPc } ∧
      ∀ b, decode t.isrEn t.pstate b = .dropped b) ∧
    (∃ t, exec .resume s = .next t ∧
      t = { s with isrEn := true, seqPc := Label.succ s.params.hsAckRearm s.seqPc } ∧
      ∀ b, decode t.isrEn t.pstate b ≠ .dropped b)

/-- R182: the wait goes on when a frame is complete, and is held while none is. That a held turn answers an unchanged state is
the model's (log 20). The label is R181's at H4 and F2; elsewhere it is the model's choice (log 17). -/
def Obligations.WaitHoldsUntilAFrameCompletes : Prop :=
  ∀ s : State, s.fault = none →
    (s.dataAvail = true →
      exec .waitDa s = .next { s with seqPc := Label.succ s.params.hsAckRearm s.seqPc }) ∧
    (s.dataAvail = false → exec .waitDa s = .next s)

/-- R186 (and its instance R162): the plain clear. The label is R181's at F3 and H5; elsewhere it is the model's choice
(log 17). -/
def Obligations.ClearDropsTheFrameFlag : Prop :=
  ∀ s : State, s.fault = none →
    exec .clearDa s =
      .next { s with dataAvail := false, seqPc := Label.succ s.params.hsAckRearm s.seqPc }

/-- R185, R165, R187: the line, and the return to the caller of the frame request. The label of SIG_ASSERT is R181's at F1 and
H8; elsewhere it is the model's choice (log 17). -/
def Obligations.SignalLineIsDriven : Prop :=
  ∀ s : State, s.fault = none →
    exec .sigAssert s =
      .next { s with sig := .asserted, seqPc := Label.succ s.params.hsAckRearm s.seqPc } ∧
    exec .sigDeassert s = .next { s with sig := .deasserted, seqPc := s.ret }

/-- R163, R166, R188, R194: one load of a latch. The label is R181's at the loads' own labels; elsewhere it is the model's
choice (log 17). -/
def Obligations.LoadFillsOneLatch : Prop :=
  ∀ (s : State) (a : BitVec 10) (k : Fin 4) (b : Byte), s.fault = none → bufRead s (a.toNat + k.val) = some b →
    ∃ t, exec (.loadGrp a k) s = .next t ∧ (∀ j, t.grp.get j = if j = k then some b else s.grp.get j) ∧
      t = { s with grp := t.grp, seqPc := Label.succ s.params.hsAckRearm s.seqPc }

/-- R65, R231 (D15): reading an unwritten cell or latch raises Uninit with its place, and nothing else changes. That an
address at or beyond `buf_len`, which no run loads, counts as unwritten is the model's choice (log 12), and so is the order
of the four latches (log 31). -/
def Obligations.UnwrittenReadsFault : Prop :=
  (∀ (s : State) (a : BitVec 10) (k : Fin 4), s.fault = none → bufRead s (a.toNat + k.val) = none →
    exec (.loadGrp a k) s = .next { s with fault := some (.uninit .buf (a.toNat + k.val)) }) ∧
  (∀ (s : State) (i : Instr) (k : Fin 4), s.fault = none → s.grp.get k = none →
    (∀ j, j < k → (s.grp.get j).isSome) → i ∈ [.checkSentinel, .checkAck, .latchCfg, .storeSam] →
    exec i s = .next { s with fault := some (.uninit .grp k.val) })

/-- R161, R201, R203: entering a sub-sequence. That its row means this entry is the model's reading (log 15). -/
def Obligations.SubsequencesAreEntered : Prop :=
  ∀ s : State, s.fault = none →
    exec .connect s = .next { s with seqPc := .h1 } ∧
    (∀ r, exec (.requestFrame r) s = .next { s with ret := r, seqPc := .f1 }) ∧
    exec .requestConfig s = .next { s with ret := .n2a, seqPc := .f1 }

/-- R201: the frame request as a whole, four turns from F1 with a frame complete; with none complete it is held at F2 with
the line asserted, however many turns follow. -/
def Obligations.FrameRequestAsAWhole : Prop :=
  (∀ (s : State) (rest : List Move), s.fault = none → s.seqPc = .f1 → s.dataAvail = true →
    s.script = List.replicate 4 .seq ++ rest →
    run 4 s = .next { s with dataAvail := false, sig := .deasserted, seqPc := s.ret, script := rest }) ∧
  (∀ (s : State) (n : Nat) (rest : List Move), s.fault = none → s.seqPc = .f1 → s.dataAvail = false →
    s.script = List.replicate (1 + n) .seq ++ rest →
    run (1 + n) s = .next { s with sig := .asserted, seqPc := .f2, script := rest })

/-- R271, R74: while delivery is on, no turn of the sequencer and no command writes a cell it shares with the byte machine
(`pstate`, `pos`, `buf_len`, the buffer), `data_avail` excepted: that one is cleared, at H5 and at F3, and never set. -/
def Obligations.OnlyTheFrameFlagIsWrittenWithoutSuspension : Prop :=
  ∀ (s t : State) (m : Move) (rest : List Move), s.Inv → s.isrEn = true → (m = .seq ∨ ∃ c, m = .cmd c) →
    s.script = m :: rest → step s = .next t →
    t.pstate = s.pstate ∧ t.pos = s.pos ∧ t.bufLen = s.bufLen ∧ t.buf = s.buf ∧
      t.dataAvail = if m = .seq ∧ (s.seqPc = .h5 ∨ s.seqPc = .f3) then false else s.dataAvail

/-! ### Session, handshake, negotiation, samples -/

/-- R184, R262 (D19): SESSION_INIT puts every cell but `hb` and `fault` at its reset value; `isr_en` is B1's to write, and the
label goes on (log 19), at B2 as R181 says and elsewhere by the model's choice (log 17). -/
def Obligations.SessionInitStartsAFreshSession : Prop :=
  ∀ s : State, s.fault = none →
    ∃ t, exec .sessionInit s = .next t ∧ (∀ a, bufRead t a = none) ∧ (∀ i, samRead t i = none) ∧
      t = { s with
        session := .down, sig := .deasserted, buf := t.buf, bufLen := 4, pstate := .init, pos := 0,
        dataAvail := false, dataType := 0, sampleCount := 0, rsv0 := 0, rsv1 := 0, samLen := 0,
        samples := t.samples, ret := .idle, grp := ⟨none, none, none, none⟩, idx := 0,
        seqPc := Label.succ s.params.hsAckRearm s.seqPc }

/-- R160 (D7): the write of REARM (log 14). The label is R181's at H2 and H9b; elsewhere it is the model's choice (log 17). -/
def Obligations.RearmReturnsToInit : Prop :=
  ∀ s : State, s.fault = none →
    exec .rearm s =
      .next { s with
        pstate := .init, pos := 0, dataAvail := false, seqPc := Label.succ s.params.hsAckRearm s.seqPc }

/-- R160 (D7), R168, R74: the window of REARM, at H1 to H3 and, where the handshake re-arms before the acknowledgment, at H9a
to H9c. Any exchanges between its turns are dropped, on either side of the write; their outgoing bytes are free values (log
4) and the statement holds for every value of them. -/
def Obligations.RearmWindowDropsExchanges : Prop :=
  ∀ (s : State) (l : Label) (before after : List Byte) (rest : List Move), s.fault = none →
    (s.seqPc = .h1 ∧ l = .h4 ∨ s.seqPc = .h9a ∧ l = .h10) →
    s.script = .seq :: before.map Move.rx ++ .seq :: after.map Move.rx ++ .seq :: rest →
    run (3 + before.length + after.length) s = .next { s with
      isrEn := true, pstate := .init, pos := 0, dataAvail := false, seqPc := l, script := rest,
      draws := s.draws + (before.length + after.length),
      out := outputsOf (fun k => Config.freeTx (s.draws + k)) (before.length + after.length) ++ s.out }

/-- R164: the sentinel test on the four latches. -/
def Obligations.SentinelTestBranches : Prop :=
  ∀ (s : State) (g0 g1 g2 g3 : Byte), s.fault = none → s.grp = ⟨some g0, some g1, some g2, some g3⟩ →
    exec .checkSentinel s =
      .next { s with seqPc := if g0 ++ g1 ++ g2 ++ g3 = 0xFFFFFFFF#32 then .h8 else .h1 }

/-- R167: the acknowledgment test on the four latches: all 32 bits zero. -/
def Obligations.AckTestBranches : Prop :=
  ∀ (s : State) (g0 g1 g2 g3 : Byte), s.fault = none → s.grp = ⟨some g0, some g1, some g2, some g3⟩ →
    exec .checkAck s = .next { s with seqPc := if g0 ++ g1 ++ g2 ++ g3 = 0#32 then .n1 else .h1 }

/-- R161 to R164, R169: a completed group, from H4 to the branch at H7, with delivery on and nothing arriving: the line is not
touched, and a group that is not the sentinel goes back to H1. -/
def Obligations.SentinelGroupIsTestedWhole : Prop :=
  ∀ (s : State) (b0 b1 b2 b3 : Byte) (rest : List Move), s.fault = none → s.seqPc = .h4 → s.dataAvail = true →
    bufRead s 0 = some b0 → bufRead s 1 = some b1 → bufRead s 2 = some b2 → bufRead s 3 = some b3 →
    s.script = List.replicate 7 .seq ++ rest →
    run 7 s = .next { s with
      dataAvail := false, grp := ⟨some b0, some b1, some b2, some b3⟩, script := rest,
      seqPc := if b0 = 0xFF ∧ b1 = 0xFF ∧ b2 = 0xFF ∧ b3 = 0xFF then .h8 else .h1 }

/-- R188: the descriptor is latched from the four latches, unchecked. The label is R181's at N3; elsewhere it is the model's
choice (log 17). -/
def Obligations.DescriptorIsLatched : Prop :=
  ∀ (s : State) (g0 g1 g2 g3 : Byte), s.fault = none → s.grp = ⟨some g0, some g1, some g2, some g3⟩ →
    exec .latchCfg s =
      .next { s with
        dataType := g0, sampleCount := g1, rsv0 := g2, rsv1 := g3,
        seqPc := Label.succ s.params.hsAckRearm s.seqPc }

/-- R96, R188: the descriptor from the buffer, five turns from N2. -/
def Obligations.DescriptorComesFromTheBuffer : Prop :=
  ∀ (s : State) (b0 b1 b2 b3 : Byte) (rest : List Move), s.fault = none → s.seqPc = .n2a →
    bufRead s 0 = some b0 → bufRead s 1 = some b1 → bufRead s 2 = some b2 → bufRead s 3 = some b3 →
    s.script = List.replicate 5 .seq ++ rest →
    run 5 s = .next { s with
      grp := ⟨some b0, some b1, some b2, some b3⟩, dataType := b0, sampleCount := b1, rsv0 := b2, rsv1 := b3,
      seqPc := .n4, script := rest }

/-- R189 (D12, D13, D25): a good descriptor passes; a bad data type faults whatever the count; a zero count faults. -/
def Obligations.DescriptorCheck : Prop :=
  ∀ s : State, s.fault = none →
    (s.dataType = 0x01 → s.sampleCount ≠ 0 → exec .checkCfg s = .next { s with seqPc := .n5 }) ∧
    (s.dataType ≠ 0x01 → exec .checkCfg s = .next { s with fault := some (.badDataType s.dataType) }) ∧
    (s.dataType = 0x01 → s.sampleCount = 0 → exec .checkCfg s = .next { s with fault := some .zeroSampleCount })

/-- R66, R191, R202: the new length is four times the count, every cell becomes unwritten, nothing else but the label
changes (log 14). It is stated for a count of 0 too, which N4 shuts out. The label is R181's at N6; elsewhere it is the
model's choice (log 17). -/
def Obligations.ReallocEmptiesAndResizes : Prop :=
  ∀ s : State, s.fault = none → (∀ n ∈ s.params.allocFail, n.toNat ≠ 4 * s.sampleCount.toNat) →
    ∃ t, exec .realloc s = .next t ∧ t.bufLen.toNat = 4 * s.sampleCount.toNat ∧ (∀ a, bufRead t a = none) ∧
      t = { s with
        buf := t.buf, bufLen := t.bufLen, seqPc := Label.succ s.params.hsAckRearm s.seqPc }

/-- R230 (D15): an allocation that the parameter lets fail stops the machine with nothing else changed. -/
def Obligations.FailedAllocationFaults : Prop :=
  ∀ (s : State) (n : BitVec 11), s.fault = none → n ∈ s.params.allocFail → n.toNat = 4 * s.sampleCount.toNat →
    exec .realloc s = .next { s with fault := some (.allocFail n) }

/-- R192 (D26): the sample array takes the count, every cell unwritten. The label is R181's at N8; elsewhere it is the model's
choice (log 17). -/
def Obligations.SampleArrayIsAllocated : Prop :=
  ∀ s : State, s.fault = none →
    ∃ t, exec .allocSam s = .next t ∧ (∀ i, samRead t i = none) ∧
      t = { s with
        samLen := s.sampleCount, samples := t.samples, seqPc := Label.succ s.params.hsAckRearm s.seqPc }

/-- R62, R195: one sample is stored, assembled in the native order of the machine, whichever it is. -/
def Obligations.SampleIsStored : Prop :=
  ∀ (s : State) (g0 g1 g2 g3 : Byte), s.fault = none → s.grp = ⟨some g0, some g1, some g2, some g3⟩ →
    s.idx.toNat < s.samLen.toNat →
    ∃ (t : State) (w : Sample), exec .storeSam s = .next t ∧
      (s.params.endian = .little →
        w.toNat = g0.toNat + 256 * g1.toNat + 65536 * g2.toNat + 16777216 * g3.toNat) ∧
      (s.params.endian = .big →
        w.toNat = g3.toNat + 256 * g2.toNat + 65536 * g1.toNat + 16777216 * g0.toNat) ∧
      (∀ i, samRead t i = if i = s.idx.toNat then some w else samRead s i) ∧
      t = { s with samples := t.samples, idx := s.idx + 1, seqPc := .a3 }

/-- The model's guard (log 12, DESIGN CHOICE; the spec gives no such case, R195): an index outside the array stores
nothing. -/
def Obligations.SampleOutsideTheArrayFaults : Prop :=
  ∀ (s : State) (g0 g1 g2 g3 : Byte), s.fault = none → s.grp = ⟨some g0, some g1, some g2, some g3⟩ →
    s.samLen.toNat ≤ s.idx.toNat →
    exec .storeSam s = .next { s with fault := some (.indexRange s.idx.toNat s.samLen) }

/-- R188 to R193, R202, R203: from N2 with an accepted descriptor in the buffer, eleven turns end `begin` with true, the
buffer `4N` bytes and the sample array `N` words long, all unwritten, for every N from 1 to 255. -/
def Obligations.NegotiationSetsTheLengths : Prop :=
  ∀ (s : State) (n r0 r1 : Byte) (rest : List Move), s.fault = none → s.seqPc = .n2a → n ≠ 0 →
    bufRead s 0 = some 0x01 → bufRead s 1 = some n → bufRead s 2 = some r0 → bufRead s 3 = some r1 →
    (∀ k ∈ s.params.allocFail, k.toNat ≠ 4 * n.toNat) → s.script = List.replicate 11 .seq ++ rest →
    ∃ t, run 11 s = .next t ∧ t.bufLen.toNat = 4 * n.toNat ∧ (∀ a, bufRead t a = none) ∧
      (∀ i, samRead t i = none) ∧
      t = { s with
        grp := ⟨some 0x01, some n, some r0, some r1⟩, dataType := 0x01, sampleCount := n, rsv0 := r0, rsv1 := r1,
        isrEn := true, buf := t.buf, bufLen := t.bufLen, samLen := n, samples := t.samples, session := .up,
        seqPc := .idle, out := .done true :: s.out, script := rest }

/-- R62, R194, R195, R67: the decode of a whole frame, from A2 with the buffer written: after `6N + 3` turns `read` has
returned true and every sample is the word of its four bytes, in the machine's byte order. -/
def Obligations.ReadDecodesEverySample : Prop :=
  ∀ (s : State) (rest : List Move), s.Inv → s.fault = none → s.seqPc = .a2 →
    (∀ a, a < s.bufLen.toNat → (bufRead s a).isSome) →
    s.script = List.replicate (6 * s.sampleCount.toNat + 3) .seq ++ rest →
    ∃ t, run (6 * s.sampleCount.toNat + 3) s = .next t ∧
      t = { s with
        samples := t.samples, grp := t.grp, idx := s.sampleCount, seqPc := .idle, out := .done true :: s.out,
        script := rest } ∧
      ∀ i, i < s.sampleCount.toNat → ∃ b0 b1 b2 b3,
        bufRead s (4 * i) = some b0 ∧ bufRead s (4 * i + 1) = some b1 ∧ bufRead s (4 * i + 2) = some b2 ∧
        bufRead s (4 * i + 3) = some b3 ∧ samRead t i = some (word s.params.endian b0 b1 b2 b3)

/-! ### Encoding -/

/-- R91 to R93: decoding the encoding of a well-formed wire operation, in a mode its row applies in, gives it back with every
operand. -/
def Obligations.DecodeOfEncodeIsTheInstruction : Prop :=
  ∀ (i : Instr) (isrEn : Bool) (p : PState) (b : Byte), i.wf = true → i.selectedIn isrEn p = true →
    encode i = some b → decode isrEn p b = i

/-- R92, R93: bytes written out from the dispatch table. -/
def Obligations.DecodedBytesOfTheTable : Prop :=
  decode true .awaitingHeader 0b00010000 = .hbNop ∧ decode true .awaitingHeader 0b00100000 = .msgHdr ∧
    decode true .awaitingHeader 0b00110000 = .cfgHdr ∧ decode true .awaitingHeader 0b11111111 = .ign 0xFF ∧
    decode true .init 0b00010000 = .collectInit 0x10 ∧ decode true .receivingConfig 0b00100000 = .collectCfg 0x20 ∧
    decode true .receivingMessage 0b00110000 = .collectMsg 0x30 ∧ decode false .awaitingHeader 0b00010000 = .dropped 0x10
end

