-- ==== Sys2Proof/Laws/State.lean ====
section
/-! SUPPORT. One lemma per field per update of State, true by rfl, so that no proof unfolds a record update; and the
constants of R7 as simp rewrites. -/
namespace Sys2Proof

@[simp] theorem Config.document_hdrHeartbeat : Config.document.hdrHeartbeat = 0x10 := rfl
@[simp] theorem Config.document_hdrMessage : Config.document.hdrMessage = 0x20 := rfl
@[simp] theorem Config.document_hdrConfig : Config.document.hdrConfig = 0x30 := rfl
@[simp] theorem Config.document_sentinel : Config.document.sentinel = 0xFF := rfl
@[simp] theorem Config.document_ack : Config.document.ack = 0x00 := rfl
@[simp] theorem Config.document_bufInitLen : Config.document.bufInitLen = 4 := rfl
@[simp] theorem Config.document_wordBytes : Config.document.wordBytes = 4 := rfl
@[simp] theorem Config.document_dtFloat : Config.document.dtFloat = 0x01 := rfl
@[simp] theorem Config.document_bufMax : Config.document.bufMax = 1020 := rfl
@[simp] theorem Config.document_groupLen : Config.document.groupLen = 4 := rfl
@[simp] theorem Config.document_hbBits : Config.document.hbBits = 8 := rfl
@[simp] theorem Config.document_sampleMax : Config.document.sampleMax = 255 := rfl

namespace Machine

@[simp] theorem goto_pstate (l : Label) (s : State) : (goto l s).pstate = s.pstate := rfl
@[simp] theorem goto_pos (l : Label) (s : State) : (goto l s).pos = s.pos := rfl
@[simp] theorem goto_bufLen (l : Label) (s : State) : (goto l s).bufLen = s.bufLen := rfl
@[simp] theorem goto_buf (l : Label) (s : State) : (goto l s).buf = s.buf := rfl
@[simp] theorem goto_dataAvail (l : Label) (s : State) : (goto l s).dataAvail = s.dataAvail := rfl
@[simp] theorem goto_hb (l : Label) (s : State) : (goto l s).hb = s.hb := rfl
@[simp] theorem goto_dataType (l : Label) (s : State) : (goto l s).dataType = s.dataType := rfl
@[simp] theorem goto_sampleCount (l : Label) (s : State) : (goto l s).sampleCount = s.sampleCount := rfl
@[simp] theorem goto_rsv0 (l : Label) (s : State) : (goto l s).rsv0 = s.rsv0 := rfl
@[simp] theorem goto_rsv1 (l : Label) (s : State) : (goto l s).rsv1 = s.rsv1 := rfl
@[simp] theorem goto_samLen (l : Label) (s : State) : (goto l s).samLen = s.samLen := rfl
@[simp] theorem goto_samples (l : Label) (s : State) : (goto l s).samples = s.samples := rfl
@[simp] theorem goto_isrEn (l : Label) (s : State) : (goto l s).isrEn = s.isrEn := rfl
@[simp] theorem goto_session (l : Label) (s : State) : (goto l s).session = s.session := rfl
@[simp] theorem goto_seqPc (l : Label) (s : State) : (goto l s).seqPc = l := rfl
@[simp] theorem goto_ret (l : Label) (s : State) : (goto l s).ret = s.ret := rfl
@[simp] theorem goto_grp (l : Label) (s : State) : (goto l s).grp = s.grp := rfl
@[simp] theorem goto_idx (l : Label) (s : State) : (goto l s).idx = s.idx := rfl
@[simp] theorem goto_sig (l : Label) (s : State) : (goto l s).sig = s.sig := rfl
@[simp] theorem goto_fault (l : Label) (s : State) : (goto l s).fault = s.fault := rfl
@[simp] theorem goto_params (l : Label) (s : State) : (goto l s).params = s.params := rfl
@[simp] theorem goto_script (l : Label) (s : State) : (goto l s).script = s.script := rfl
@[simp] theorem goto_draws (l : Label) (s : State) : (goto l s).draws = s.draws := rfl
@[simp] theorem goto_out (l : Label) (s : State) : (goto l s).out = s.out := rfl

@[simp] theorem emit_pstate (o : Output) (s : State) : (emit o s).pstate = s.pstate := rfl
@[simp] theorem emit_pos (o : Output) (s : State) : (emit o s).pos = s.pos := rfl
@[simp] theorem emit_bufLen (o : Output) (s : State) : (emit o s).bufLen = s.bufLen := rfl
@[simp] theorem emit_buf (o : Output) (s : State) : (emit o s).buf = s.buf := rfl
@[simp] theorem emit_dataAvail (o : Output) (s : State) : (emit o s).dataAvail = s.dataAvail := rfl
@[simp] theorem emit_hb (o : Output) (s : State) : (emit o s).hb = s.hb := rfl
@[simp] theorem emit_dataType (o : Output) (s : State) : (emit o s).dataType = s.dataType := rfl
@[simp] theorem emit_sampleCount (o : Output) (s : State) : (emit o s).sampleCount = s.sampleCount := rfl
@[simp] theorem emit_rsv0 (o : Output) (s : State) : (emit o s).rsv0 = s.rsv0 := rfl
@[simp] theorem emit_rsv1 (o : Output) (s : State) : (emit o s).rsv1 = s.rsv1 := rfl
@[simp] theorem emit_samLen (o : Output) (s : State) : (emit o s).samLen = s.samLen := rfl
@[simp] theorem emit_samples (o : Output) (s : State) : (emit o s).samples = s.samples := rfl
@[simp] theorem emit_isrEn (o : Output) (s : State) : (emit o s).isrEn = s.isrEn := rfl
@[simp] theorem emit_session (o : Output) (s : State) : (emit o s).session = s.session := rfl
@[simp] theorem emit_seqPc (o : Output) (s : State) : (emit o s).seqPc = s.seqPc := rfl
@[simp] theorem emit_ret (o : Output) (s : State) : (emit o s).ret = s.ret := rfl
@[simp] theorem emit_grp (o : Output) (s : State) : (emit o s).grp = s.grp := rfl
@[simp] theorem emit_idx (o : Output) (s : State) : (emit o s).idx = s.idx := rfl
@[simp] theorem emit_sig (o : Output) (s : State) : (emit o s).sig = s.sig := rfl
@[simp] theorem emit_fault (o : Output) (s : State) : (emit o s).fault = s.fault := rfl
@[simp] theorem emit_params (o : Output) (s : State) : (emit o s).params = s.params := rfl
@[simp] theorem emit_script (o : Output) (s : State) : (emit o s).script = s.script := rfl
@[simp] theorem emit_draws (o : Output) (s : State) : (emit o s).draws = s.draws := rfl
@[simp] theorem emit_out (o : Output) (s : State) : (emit o s).out = o :: s.out := rfl

@[simp] theorem advance_pstate (s : State) : (advance s).pstate = s.pstate := rfl
@[simp] theorem advance_pos (s : State) : (advance s).pos = s.pos := rfl
@[simp] theorem advance_bufLen (s : State) : (advance s).bufLen = s.bufLen := rfl
@[simp] theorem advance_buf (s : State) : (advance s).buf = s.buf := rfl
@[simp] theorem advance_dataAvail (s : State) : (advance s).dataAvail = s.dataAvail := rfl
@[simp] theorem advance_hb (s : State) : (advance s).hb = s.hb := rfl
@[simp] theorem advance_dataType (s : State) : (advance s).dataType = s.dataType := rfl
@[simp] theorem advance_sampleCount (s : State) : (advance s).sampleCount = s.sampleCount := rfl
@[simp] theorem advance_rsv0 (s : State) : (advance s).rsv0 = s.rsv0 := rfl
@[simp] theorem advance_rsv1 (s : State) : (advance s).rsv1 = s.rsv1 := rfl
@[simp] theorem advance_samLen (s : State) : (advance s).samLen = s.samLen := rfl
@[simp] theorem advance_samples (s : State) : (advance s).samples = s.samples := rfl
@[simp] theorem advance_isrEn (s : State) : (advance s).isrEn = s.isrEn := rfl
@[simp] theorem advance_session (s : State) : (advance s).session = s.session := rfl
@[simp] theorem advance_seqPc (s : State) : (advance s).seqPc = Label.succ s.params.hsAckRearm s.seqPc := rfl
@[simp] theorem advance_ret (s : State) : (advance s).ret = s.ret := rfl
@[simp] theorem advance_grp (s : State) : (advance s).grp = s.grp := rfl
@[simp] theorem advance_idx (s : State) : (advance s).idx = s.idx := rfl
@[simp] theorem advance_sig (s : State) : (advance s).sig = s.sig := rfl
@[simp] theorem advance_fault (s : State) : (advance s).fault = s.fault := rfl
@[simp] theorem advance_params (s : State) : (advance s).params = s.params := rfl
@[simp] theorem advance_script (s : State) : (advance s).script = s.script := rfl
@[simp] theorem advance_draws (s : State) : (advance s).draws = s.draws := rfl
@[simp] theorem advance_out (s : State) : (advance s).out = s.out := rfl

@[simp] theorem callFrame_pstate (r : Label) (s : State) : (callFrame r s).pstate = s.pstate := rfl
@[simp] theorem callFrame_pos (r : Label) (s : State) : (callFrame r s).pos = s.pos := rfl
@[simp] theorem callFrame_bufLen (r : Label) (s : State) : (callFrame r s).bufLen = s.bufLen := rfl
@[simp] theorem callFrame_buf (r : Label) (s : State) : (callFrame r s).buf = s.buf := rfl
@[simp] theorem callFrame_dataAvail (r : Label) (s : State) : (callFrame r s).dataAvail = s.dataAvail := rfl
@[simp] theorem callFrame_hb (r : Label) (s : State) : (callFrame r s).hb = s.hb := rfl
@[simp] theorem callFrame_dataType (r : Label) (s : State) : (callFrame r s).dataType = s.dataType := rfl
@[simp] theorem callFrame_sampleCount (r : Label) (s : State) : (callFrame r s).sampleCount = s.sampleCount := rfl
@[simp] theorem callFrame_rsv0 (r : Label) (s : State) : (callFrame r s).rsv0 = s.rsv0 := rfl
@[simp] theorem callFrame_rsv1 (r : Label) (s : State) : (callFrame r s).rsv1 = s.rsv1 := rfl
@[simp] theorem callFrame_samLen (r : Label) (s : State) : (callFrame r s).samLen = s.samLen := rfl
@[simp] theorem callFrame_samples (r : Label) (s : State) : (callFrame r s).samples = s.samples := rfl
@[simp] theorem callFrame_isrEn (r : Label) (s : State) : (callFrame r s).isrEn = s.isrEn := rfl
@[simp] theorem callFrame_session (r : Label) (s : State) : (callFrame r s).session = s.session := rfl
@[simp] theorem callFrame_seqPc (r : Label) (s : State) : (callFrame r s).seqPc = .f1 := rfl
@[simp] theorem callFrame_ret (r : Label) (s : State) : (callFrame r s).ret = r := rfl
@[simp] theorem callFrame_grp (r : Label) (s : State) : (callFrame r s).grp = s.grp := rfl
@[simp] theorem callFrame_idx (r : Label) (s : State) : (callFrame r s).idx = s.idx := rfl
@[simp] theorem callFrame_sig (r : Label) (s : State) : (callFrame r s).sig = s.sig := rfl
@[simp] theorem callFrame_fault (r : Label) (s : State) : (callFrame r s).fault = s.fault := rfl
@[simp] theorem callFrame_params (r : Label) (s : State) : (callFrame r s).params = s.params := rfl
@[simp] theorem callFrame_script (r : Label) (s : State) : (callFrame r s).script = s.script := rfl
@[simp] theorem callFrame_draws (r : Label) (s : State) : (callFrame r s).draws = s.draws := rfl
@[simp] theorem callFrame_out (r : Label) (s : State) : (callFrame r s).out = s.out := rfl

@[simp] theorem bytePrefix_pstate (s : State) : (bytePrefix s).pstate = s.pstate := rfl
@[simp] theorem bytePrefix_pos (s : State) : (bytePrefix s).pos = s.pos := rfl
@[simp] theorem bytePrefix_bufLen (s : State) : (bytePrefix s).bufLen = s.bufLen := rfl
@[simp] theorem bytePrefix_buf (s : State) : (bytePrefix s).buf = s.buf := rfl
@[simp] theorem bytePrefix_dataAvail (s : State) : (bytePrefix s).dataAvail = s.dataAvail := rfl
@[simp] theorem bytePrefix_hb (s : State) : (bytePrefix s).hb = heartbeatAfter s.pstate s.hb := rfl
@[simp] theorem bytePrefix_dataType (s : State) : (bytePrefix s).dataType = s.dataType := rfl
@[simp] theorem bytePrefix_sampleCount (s : State) : (bytePrefix s).sampleCount = s.sampleCount := rfl
@[simp] theorem bytePrefix_rsv0 (s : State) : (bytePrefix s).rsv0 = s.rsv0 := rfl
@[simp] theorem bytePrefix_rsv1 (s : State) : (bytePrefix s).rsv1 = s.rsv1 := rfl
@[simp] theorem bytePrefix_samLen (s : State) : (bytePrefix s).samLen = s.samLen := rfl
@[simp] theorem bytePrefix_samples (s : State) : (bytePrefix s).samples = s.samples := rfl
@[simp] theorem bytePrefix_isrEn (s : State) : (bytePrefix s).isrEn = s.isrEn := rfl
@[simp] theorem bytePrefix_session (s : State) : (bytePrefix s).session = s.session := rfl
@[simp] theorem bytePrefix_seqPc (s : State) : (bytePrefix s).seqPc = s.seqPc := rfl
@[simp] theorem bytePrefix_ret (s : State) : (bytePrefix s).ret = s.ret := rfl
@[simp] theorem bytePrefix_grp (s : State) : (bytePrefix s).grp = s.grp := rfl
@[simp] theorem bytePrefix_idx (s : State) : (bytePrefix s).idx = s.idx := rfl
@[simp] theorem bytePrefix_sig (s : State) : (bytePrefix s).sig = s.sig := rfl
@[simp] theorem bytePrefix_fault (s : State) : (bytePrefix s).fault = s.fault := rfl
@[simp] theorem bytePrefix_params (s : State) : (bytePrefix s).params = s.params := rfl
@[simp] theorem bytePrefix_script (s : State) : (bytePrefix s).script = s.script := rfl
@[simp] theorem bytePrefix_draws (s : State) : (bytePrefix s).draws = s.draws := rfl
@[simp] theorem bytePrefix_out (s : State) : (bytePrefix s).out = .tx s.hb :: s.out := rfl

@[simp] theorem bufWrite_pstate (s : State) (a : Nat) (v : Byte) : (bufWrite s a v).pstate = s.pstate := rfl
@[simp] theorem bufWrite_pos (s : State) (a : Nat) (v : Byte) : (bufWrite s a v).pos = s.pos := rfl
@[simp] theorem bufWrite_bufLen (s : State) (a : Nat) (v : Byte) : (bufWrite s a v).bufLen = s.bufLen := rfl
@[simp] theorem bufWrite_buf (s : State) (a : Nat) (v : Byte) : (bufWrite s a v).buf = Memory.write s.buf a v := rfl
@[simp] theorem bufWrite_dataAvail (s : State) (a : Nat) (v : Byte) : (bufWrite s a v).dataAvail = s.dataAvail := rfl
@[simp] theorem bufWrite_hb (s : State) (a : Nat) (v : Byte) : (bufWrite s a v).hb = s.hb := rfl
@[simp] theorem bufWrite_dataType (s : State) (a : Nat) (v : Byte) : (bufWrite s a v).dataType = s.dataType := rfl
@[simp] theorem bufWrite_sampleCount (s : State) (a : Nat) (v : Byte) : (bufWrite s a v).sampleCount = s.sampleCount := rfl
@[simp] theorem bufWrite_rsv0 (s : State) (a : Nat) (v : Byte) : (bufWrite s a v).rsv0 = s.rsv0 := rfl
@[simp] theorem bufWrite_rsv1 (s : State) (a : Nat) (v : Byte) : (bufWrite s a v).rsv1 = s.rsv1 := rfl
@[simp] theorem bufWrite_samLen (s : State) (a : Nat) (v : Byte) : (bufWrite s a v).samLen = s.samLen := rfl
@[simp] theorem bufWrite_samples (s : State) (a : Nat) (v : Byte) : (bufWrite s a v).samples = s.samples := rfl
@[simp] theorem bufWrite_isrEn (s : State) (a : Nat) (v : Byte) : (bufWrite s a v).isrEn = s.isrEn := rfl
@[simp] theorem bufWrite_session (s : State) (a : Nat) (v : Byte) : (bufWrite s a v).session = s.session := rfl
@[simp] theorem bufWrite_seqPc (s : State) (a : Nat) (v : Byte) : (bufWrite s a v).seqPc = s.seqPc := rfl
@[simp] theorem bufWrite_ret (s : State) (a : Nat) (v : Byte) : (bufWrite s a v).ret = s.ret := rfl
@[simp] theorem bufWrite_grp (s : State) (a : Nat) (v : Byte) : (bufWrite s a v).grp = s.grp := rfl
@[simp] theorem bufWrite_idx (s : State) (a : Nat) (v : Byte) : (bufWrite s a v).idx = s.idx := rfl
@[simp] theorem bufWrite_sig (s : State) (a : Nat) (v : Byte) : (bufWrite s a v).sig = s.sig := rfl
@[simp] theorem bufWrite_fault (s : State) (a : Nat) (v : Byte) : (bufWrite s a v).fault = s.fault := rfl
@[simp] theorem bufWrite_params (s : State) (a : Nat) (v : Byte) : (bufWrite s a v).params = s.params := rfl
@[simp] theorem bufWrite_script (s : State) (a : Nat) (v : Byte) : (bufWrite s a v).script = s.script := rfl
@[simp] theorem bufWrite_draws (s : State) (a : Nat) (v : Byte) : (bufWrite s a v).draws = s.draws := rfl
@[simp] theorem bufWrite_out (s : State) (a : Nat) (v : Byte) : (bufWrite s a v).out = s.out := rfl

@[simp] theorem samWrite_pstate (s : State) (i : Nat) (w : Sample) : (samWrite s i w).pstate = s.pstate := rfl
@[simp] theorem samWrite_pos (s : State) (i : Nat) (w : Sample) : (samWrite s i w).pos = s.pos := rfl
@[simp] theorem samWrite_bufLen (s : State) (i : Nat) (w : Sample) : (samWrite s i w).bufLen = s.bufLen := rfl
@[simp] theorem samWrite_buf (s : State) (i : Nat) (w : Sample) : (samWrite s i w).buf = s.buf := rfl
@[simp] theorem samWrite_dataAvail (s : State) (i : Nat) (w : Sample) : (samWrite s i w).dataAvail = s.dataAvail := rfl
@[simp] theorem samWrite_hb (s : State) (i : Nat) (w : Sample) : (samWrite s i w).hb = s.hb := rfl
@[simp] theorem samWrite_dataType (s : State) (i : Nat) (w : Sample) : (samWrite s i w).dataType = s.dataType := rfl
@[simp] theorem samWrite_sampleCount (s : State) (i : Nat) (w : Sample) : (samWrite s i w).sampleCount = s.sampleCount := rfl
@[simp] theorem samWrite_rsv0 (s : State) (i : Nat) (w : Sample) : (samWrite s i w).rsv0 = s.rsv0 := rfl
@[simp] theorem samWrite_rsv1 (s : State) (i : Nat) (w : Sample) : (samWrite s i w).rsv1 = s.rsv1 := rfl
@[simp] theorem samWrite_samLen (s : State) (i : Nat) (w : Sample) : (samWrite s i w).samLen = s.samLen := rfl
@[simp] theorem samWrite_samples (s : State) (i : Nat) (w : Sample) : (samWrite s i w).samples = Memory.write s.samples i w := rfl
@[simp] theorem samWrite_isrEn (s : State) (i : Nat) (w : Sample) : (samWrite s i w).isrEn = s.isrEn := rfl
@[simp] theorem samWrite_session (s : State) (i : Nat) (w : Sample) : (samWrite s i w).session = s.session := rfl
@[simp] theorem samWrite_seqPc (s : State) (i : Nat) (w : Sample) : (samWrite s i w).seqPc = s.seqPc := rfl
@[simp] theorem samWrite_ret (s : State) (i : Nat) (w : Sample) : (samWrite s i w).ret = s.ret := rfl
@[simp] theorem samWrite_grp (s : State) (i : Nat) (w : Sample) : (samWrite s i w).grp = s.grp := rfl
@[simp] theorem samWrite_idx (s : State) (i : Nat) (w : Sample) : (samWrite s i w).idx = s.idx := rfl
@[simp] theorem samWrite_sig (s : State) (i : Nat) (w : Sample) : (samWrite s i w).sig = s.sig := rfl
@[simp] theorem samWrite_fault (s : State) (i : Nat) (w : Sample) : (samWrite s i w).fault = s.fault := rfl
@[simp] theorem samWrite_params (s : State) (i : Nat) (w : Sample) : (samWrite s i w).params = s.params := rfl
@[simp] theorem samWrite_script (s : State) (i : Nat) (w : Sample) : (samWrite s i w).script = s.script := rfl
@[simp] theorem samWrite_draws (s : State) (i : Nat) (w : Sample) : (samWrite s i w).draws = s.draws := rfl
@[simp] theorem samWrite_out (s : State) (i : Nat) (w : Sample) : (samWrite s i w).out = s.out := rfl

@[simp] theorem allocBuf_pstate (s : State) (n : BitVec 11) : (allocBuf s n).pstate = s.pstate := rfl
@[simp] theorem allocBuf_pos (s : State) (n : BitVec 11) : (allocBuf s n).pos = s.pos := rfl
@[simp] theorem allocBuf_bufLen (s : State) (n : BitVec 11) : (allocBuf s n).bufLen = n := rfl
@[simp] theorem allocBuf_buf (s : State) (n : BitVec 11) : (allocBuf s n).buf = [] := rfl
@[simp] theorem allocBuf_dataAvail (s : State) (n : BitVec 11) : (allocBuf s n).dataAvail = s.dataAvail := rfl
@[simp] theorem allocBuf_hb (s : State) (n : BitVec 11) : (allocBuf s n).hb = s.hb := rfl
@[simp] theorem allocBuf_dataType (s : State) (n : BitVec 11) : (allocBuf s n).dataType = s.dataType := rfl
@[simp] theorem allocBuf_sampleCount (s : State) (n : BitVec 11) : (allocBuf s n).sampleCount = s.sampleCount := rfl
@[simp] theorem allocBuf_rsv0 (s : State) (n : BitVec 11) : (allocBuf s n).rsv0 = s.rsv0 := rfl
@[simp] theorem allocBuf_rsv1 (s : State) (n : BitVec 11) : (allocBuf s n).rsv1 = s.rsv1 := rfl
@[simp] theorem allocBuf_samLen (s : State) (n : BitVec 11) : (allocBuf s n).samLen = s.samLen := rfl
@[simp] theorem allocBuf_samples (s : State) (n : BitVec 11) : (allocBuf s n).samples = s.samples := rfl
@[simp] theorem allocBuf_isrEn (s : State) (n : BitVec 11) : (allocBuf s n).isrEn = s.isrEn := rfl
@[simp] theorem allocBuf_session (s : State) (n : BitVec 11) : (allocBuf s n).session = s.session := rfl
@[simp] theorem allocBuf_seqPc (s : State) (n : BitVec 11) : (allocBuf s n).seqPc = s.seqPc := rfl
@[simp] theorem allocBuf_ret (s : State) (n : BitVec 11) : (allocBuf s n).ret = s.ret := rfl
@[simp] theorem allocBuf_grp (s : State) (n : BitVec 11) : (allocBuf s n).grp = s.grp := rfl
@[simp] theorem allocBuf_idx (s : State) (n : BitVec 11) : (allocBuf s n).idx = s.idx := rfl
@[simp] theorem allocBuf_sig (s : State) (n : BitVec 11) : (allocBuf s n).sig = s.sig := rfl
@[simp] theorem allocBuf_fault (s : State) (n : BitVec 11) : (allocBuf s n).fault = s.fault := rfl
@[simp] theorem allocBuf_params (s : State) (n : BitVec 11) : (allocBuf s n).params = s.params := rfl
@[simp] theorem allocBuf_script (s : State) (n : BitVec 11) : (allocBuf s n).script = s.script := rfl
@[simp] theorem allocBuf_draws (s : State) (n : BitVec 11) : (allocBuf s n).draws = s.draws := rfl
@[simp] theorem allocBuf_out (s : State) (n : BitVec 11) : (allocBuf s n).out = s.out := rfl

@[simp] theorem allocSamples_pstate (s : State) (n : Byte) : (allocSamples s n).pstate = s.pstate := rfl
@[simp] theorem allocSamples_pos (s : State) (n : Byte) : (allocSamples s n).pos = s.pos := rfl
@[simp] theorem allocSamples_bufLen (s : State) (n : Byte) : (allocSamples s n).bufLen = s.bufLen := rfl
@[simp] theorem allocSamples_buf (s : State) (n : Byte) : (allocSamples s n).buf = s.buf := rfl
@[simp] theorem allocSamples_dataAvail (s : State) (n : Byte) : (allocSamples s n).dataAvail = s.dataAvail := rfl
@[simp] theorem allocSamples_hb (s : State) (n : Byte) : (allocSamples s n).hb = s.hb := rfl
@[simp] theorem allocSamples_dataType (s : State) (n : Byte) : (allocSamples s n).dataType = s.dataType := rfl
@[simp] theorem allocSamples_sampleCount (s : State) (n : Byte) : (allocSamples s n).sampleCount = s.sampleCount := rfl
@[simp] theorem allocSamples_rsv0 (s : State) (n : Byte) : (allocSamples s n).rsv0 = s.rsv0 := rfl
@[simp] theorem allocSamples_rsv1 (s : State) (n : Byte) : (allocSamples s n).rsv1 = s.rsv1 := rfl
@[simp] theorem allocSamples_samLen (s : State) (n : Byte) : (allocSamples s n).samLen = n := rfl
@[simp] theorem allocSamples_samples (s : State) (n : Byte) : (allocSamples s n).samples = [] := rfl
@[simp] theorem allocSamples_isrEn (s : State) (n : Byte) : (allocSamples s n).isrEn = s.isrEn := rfl
@[simp] theorem allocSamples_session (s : State) (n : Byte) : (allocSamples s n).session = s.session := rfl
@[simp] theorem allocSamples_seqPc (s : State) (n : Byte) : (allocSamples s n).seqPc = s.seqPc := rfl
@[simp] theorem allocSamples_ret (s : State) (n : Byte) : (allocSamples s n).ret = s.ret := rfl
@[simp] theorem allocSamples_grp (s : State) (n : Byte) : (allocSamples s n).grp = s.grp := rfl
@[simp] theorem allocSamples_idx (s : State) (n : Byte) : (allocSamples s n).idx = s.idx := rfl
@[simp] theorem allocSamples_sig (s : State) (n : Byte) : (allocSamples s n).sig = s.sig := rfl
@[simp] theorem allocSamples_fault (s : State) (n : Byte) : (allocSamples s n).fault = s.fault := rfl
@[simp] theorem allocSamples_params (s : State) (n : Byte) : (allocSamples s n).params = s.params := rfl
@[simp] theorem allocSamples_script (s : State) (n : Byte) : (allocSamples s n).script = s.script := rfl
@[simp] theorem allocSamples_draws (s : State) (n : Byte) : (allocSamples s n).draws = s.draws := rfl
@[simp] theorem allocSamples_out (s : State) (n : Byte) : (allocSamples s n).out = s.out := rfl

@[simp] theorem storeAdvance_pstate (rx : Byte) (s : State) : (storeAdvance rx s).pstate = s.pstate := rfl
@[simp] theorem storeAdvance_pos (rx : Byte) (s : State) : (storeAdvance rx s).pos = s.pos + 1 := rfl
@[simp] theorem storeAdvance_bufLen (rx : Byte) (s : State) : (storeAdvance rx s).bufLen = s.bufLen := rfl
@[simp] theorem storeAdvance_buf (rx : Byte) (s : State) : (storeAdvance rx s).buf = Memory.write s.buf s.pos.toNat rx := rfl
@[simp] theorem storeAdvance_dataAvail (rx : Byte) (s : State) : (storeAdvance rx s).dataAvail = s.dataAvail := rfl
@[simp] theorem storeAdvance_hb (rx : Byte) (s : State) : (storeAdvance rx s).hb = s.hb := rfl
@[simp] theorem storeAdvance_dataType (rx : Byte) (s : State) : (storeAdvance rx s).dataType = s.dataType := rfl
@[simp] theorem storeAdvance_sampleCount (rx : Byte) (s : State) : (storeAdvance rx s).sampleCount = s.sampleCount := rfl
@[simp] theorem storeAdvance_rsv0 (rx : Byte) (s : State) : (storeAdvance rx s).rsv0 = s.rsv0 := rfl
@[simp] theorem storeAdvance_rsv1 (rx : Byte) (s : State) : (storeAdvance rx s).rsv1 = s.rsv1 := rfl
@[simp] theorem storeAdvance_samLen (rx : Byte) (s : State) : (storeAdvance rx s).samLen = s.samLen := rfl
@[simp] theorem storeAdvance_samples (rx : Byte) (s : State) : (storeAdvance rx s).samples = s.samples := rfl
@[simp] theorem storeAdvance_isrEn (rx : Byte) (s : State) : (storeAdvance rx s).isrEn = s.isrEn := rfl
@[simp] theorem storeAdvance_session (rx : Byte) (s : State) : (storeAdvance rx s).session = s.session := rfl
@[simp] theorem storeAdvance_seqPc (rx : Byte) (s : State) : (storeAdvance rx s).seqPc = s.seqPc := rfl
@[simp] theorem storeAdvance_ret (rx : Byte) (s : State) : (storeAdvance rx s).ret = s.ret := rfl
@[simp] theorem storeAdvance_grp (rx : Byte) (s : State) : (storeAdvance rx s).grp = s.grp := rfl
@[simp] theorem storeAdvance_idx (rx : Byte) (s : State) : (storeAdvance rx s).idx = s.idx := rfl
@[simp] theorem storeAdvance_sig (rx : Byte) (s : State) : (storeAdvance rx s).sig = s.sig := rfl
@[simp] theorem storeAdvance_fault (rx : Byte) (s : State) : (storeAdvance rx s).fault = s.fault := rfl
@[simp] theorem storeAdvance_params (rx : Byte) (s : State) : (storeAdvance rx s).params = s.params := rfl
@[simp] theorem storeAdvance_script (rx : Byte) (s : State) : (storeAdvance rx s).script = s.script := rfl
@[simp] theorem storeAdvance_draws (rx : Byte) (s : State) : (storeAdvance rx s).draws = s.draws := rfl
@[simp] theorem storeAdvance_out (rx : Byte) (s : State) : (storeAdvance rx s).out = s.out := rfl

@[simp] theorem clearDataAvail_pstate (s : State) : (clearDataAvail s).pstate = s.pstate := rfl
@[simp] theorem clearDataAvail_pos (s : State) : (clearDataAvail s).pos = s.pos := rfl
@[simp] theorem clearDataAvail_bufLen (s : State) : (clearDataAvail s).bufLen = s.bufLen := rfl
@[simp] theorem clearDataAvail_buf (s : State) : (clearDataAvail s).buf = s.buf := rfl
@[simp] theorem clearDataAvail_dataAvail (s : State) : (clearDataAvail s).dataAvail = false := rfl
@[simp] theorem clearDataAvail_hb (s : State) : (clearDataAvail s).hb = s.hb := rfl
@[simp] theorem clearDataAvail_dataType (s : State) : (clearDataAvail s).dataType = s.dataType := rfl
@[simp] theorem clearDataAvail_sampleCount (s : State) : (clearDataAvail s).sampleCount = s.sampleCount := rfl
@[simp] theorem clearDataAvail_rsv0 (s : State) : (clearDataAvail s).rsv0 = s.rsv0 := rfl
@[simp] theorem clearDataAvail_rsv1 (s : State) : (clearDataAvail s).rsv1 = s.rsv1 := rfl
@[simp] theorem clearDataAvail_samLen (s : State) : (clearDataAvail s).samLen = s.samLen := rfl
@[simp] theorem clearDataAvail_samples (s : State) : (clearDataAvail s).samples = s.samples := rfl
@[simp] theorem clearDataAvail_isrEn (s : State) : (clearDataAvail s).isrEn = s.isrEn := rfl
@[simp] theorem clearDataAvail_session (s : State) : (clearDataAvail s).session = s.session := rfl
@[simp] theorem clearDataAvail_seqPc (s : State) : (clearDataAvail s).seqPc = s.seqPc := rfl
@[simp] theorem clearDataAvail_ret (s : State) : (clearDataAvail s).ret = s.ret := rfl
@[simp] theorem clearDataAvail_grp (s : State) : (clearDataAvail s).grp = s.grp := rfl
@[simp] theorem clearDataAvail_idx (s : State) : (clearDataAvail s).idx = s.idx := rfl
@[simp] theorem clearDataAvail_sig (s : State) : (clearDataAvail s).sig = s.sig := rfl
@[simp] theorem clearDataAvail_fault (s : State) : (clearDataAvail s).fault = s.fault := rfl
@[simp] theorem clearDataAvail_params (s : State) : (clearDataAvail s).params = s.params := rfl
@[simp] theorem clearDataAvail_script (s : State) : (clearDataAvail s).script = s.script := rfl
@[simp] theorem clearDataAvail_draws (s : State) : (clearDataAvail s).draws = s.draws := rfl
@[simp] theorem clearDataAvail_out (s : State) : (clearDataAvail s).out = s.out := rfl

@[simp] theorem assertSig_pstate (s : State) : (assertSig s).pstate = s.pstate := rfl
@[simp] theorem assertSig_pos (s : State) : (assertSig s).pos = s.pos := rfl
@[simp] theorem assertSig_bufLen (s : State) : (assertSig s).bufLen = s.bufLen := rfl
@[simp] theorem assertSig_buf (s : State) : (assertSig s).buf = s.buf := rfl
@[simp] theorem assertSig_dataAvail (s : State) : (assertSig s).dataAvail = s.dataAvail := rfl
@[simp] theorem assertSig_hb (s : State) : (assertSig s).hb = s.hb := rfl
@[simp] theorem assertSig_dataType (s : State) : (assertSig s).dataType = s.dataType := rfl
@[simp] theorem assertSig_sampleCount (s : State) : (assertSig s).sampleCount = s.sampleCount := rfl
@[simp] theorem assertSig_rsv0 (s : State) : (assertSig s).rsv0 = s.rsv0 := rfl
@[simp] theorem assertSig_rsv1 (s : State) : (assertSig s).rsv1 = s.rsv1 := rfl
@[simp] theorem assertSig_samLen (s : State) : (assertSig s).samLen = s.samLen := rfl
@[simp] theorem assertSig_samples (s : State) : (assertSig s).samples = s.samples := rfl
@[simp] theorem assertSig_isrEn (s : State) : (assertSig s).isrEn = s.isrEn := rfl
@[simp] theorem assertSig_session (s : State) : (assertSig s).session = s.session := rfl
@[simp] theorem assertSig_seqPc (s : State) : (assertSig s).seqPc = s.seqPc := rfl
@[simp] theorem assertSig_ret (s : State) : (assertSig s).ret = s.ret := rfl
@[simp] theorem assertSig_grp (s : State) : (assertSig s).grp = s.grp := rfl
@[simp] theorem assertSig_idx (s : State) : (assertSig s).idx = s.idx := rfl
@[simp] theorem assertSig_sig (s : State) : (assertSig s).sig = .asserted := rfl
@[simp] theorem assertSig_fault (s : State) : (assertSig s).fault = s.fault := rfl
@[simp] theorem assertSig_params (s : State) : (assertSig s).params = s.params := rfl
@[simp] theorem assertSig_script (s : State) : (assertSig s).script = s.script := rfl
@[simp] theorem assertSig_draws (s : State) : (assertSig s).draws = s.draws := rfl
@[simp] theorem assertSig_out (s : State) : (assertSig s).out = s.out := rfl

@[simp] theorem deassertSig_pstate (s : State) : (deassertSig s).pstate = s.pstate := rfl
@[simp] theorem deassertSig_pos (s : State) : (deassertSig s).pos = s.pos := rfl
@[simp] theorem deassertSig_bufLen (s : State) : (deassertSig s).bufLen = s.bufLen := rfl
@[simp] theorem deassertSig_buf (s : State) : (deassertSig s).buf = s.buf := rfl
@[simp] theorem deassertSig_dataAvail (s : State) : (deassertSig s).dataAvail = s.dataAvail := rfl
@[simp] theorem deassertSig_hb (s : State) : (deassertSig s).hb = s.hb := rfl
@[simp] theorem deassertSig_dataType (s : State) : (deassertSig s).dataType = s.dataType := rfl
@[simp] theorem deassertSig_sampleCount (s : State) : (deassertSig s).sampleCount = s.sampleCount := rfl
@[simp] theorem deassertSig_rsv0 (s : State) : (deassertSig s).rsv0 = s.rsv0 := rfl
@[simp] theorem deassertSig_rsv1 (s : State) : (deassertSig s).rsv1 = s.rsv1 := rfl
@[simp] theorem deassertSig_samLen (s : State) : (deassertSig s).samLen = s.samLen := rfl
@[simp] theorem deassertSig_samples (s : State) : (deassertSig s).samples = s.samples := rfl
@[simp] theorem deassertSig_isrEn (s : State) : (deassertSig s).isrEn = s.isrEn := rfl
@[simp] theorem deassertSig_session (s : State) : (deassertSig s).session = s.session := rfl
@[simp] theorem deassertSig_seqPc (s : State) : (deassertSig s).seqPc = s.seqPc := rfl
@[simp] theorem deassertSig_ret (s : State) : (deassertSig s).ret = s.ret := rfl
@[simp] theorem deassertSig_grp (s : State) : (deassertSig s).grp = s.grp := rfl
@[simp] theorem deassertSig_idx (s : State) : (deassertSig s).idx = s.idx := rfl
@[simp] theorem deassertSig_sig (s : State) : (deassertSig s).sig = .deasserted := rfl
@[simp] theorem deassertSig_fault (s : State) : (deassertSig s).fault = s.fault := rfl
@[simp] theorem deassertSig_params (s : State) : (deassertSig s).params = s.params := rfl
@[simp] theorem deassertSig_script (s : State) : (deassertSig s).script = s.script := rfl
@[simp] theorem deassertSig_draws (s : State) : (deassertSig s).draws = s.draws := rfl
@[simp] theorem deassertSig_out (s : State) : (deassertSig s).out = s.out := rfl

end Machine

end Sys2Proof
end

