-- ==== Sys2Proof/Laws/Memory.lean ====
section
/-! SUPPORT. The laws of the two memories: read after write, and every operation keeps the canonical form. -/
namespace Sys2Proof.Machine

@[simp] theorem Memory.read_nil {α : Type} (a : Nat) : Memory.read ([] : List (Nat × α)) a = none := rfl

/-- A read after a write gives the value written at its address and the old value elsewhere. -/
theorem Memory.read_write {α : Type} (m : List (Nat × α)) (a b : Nat) (v : α) :
    Memory.read (Memory.write m a v) b = if b = a then some v else Memory.read m b := by
  induction m with
  | nil => simp [Memory.write, Memory.read]
  | cons c m ih =>
    obtain ⟨d, w⟩ := c
    simp only [Memory.write]
    split
    · simp [Memory.read]
    · split
      · subst a
        simp only [Memory.read]
        split <;> rfl
      · simp only [Memory.read, ih]
        split
        · rw [if_neg (by omega)]
        · rfl

@[simp] theorem Memory.read_write_same {α : Type} (m : List (Nat × α)) (a : Nat) (v : α) :
    Memory.read (Memory.write m a v) a = some v := by simp [Memory.read_write]

theorem Memory.read_write_other {α : Type} (m : List (Nat × α)) {a b : Nat} (v : α) (h : b ≠ a) :
    Memory.read (Memory.write m a v) b = Memory.read m b := by simp [Memory.read_write, h]

@[simp] theorem Memory.wf_nil {α : Type} : Memory.wf ([] : List (Nat × α)) = true := rfl

/-- The form of a non-empty list: it starts below the rest, which has the form. -/
theorem Memory.wf_cons {α : Type} (a : Nat) (v : α) (m : List (Nat × α)) :
    Memory.wf ((a, v) :: m) = true ↔ (∀ c ∈ m, a < c.1) ∧ Memory.wf m = true := by
  induction m generalizing a v with
  | nil => simp [Memory.wf]
  | cons c m ih =>
    obtain ⟨b, w⟩ := c
    simp only [Memory.wf, Bool.and_eq_true, decide_eq_true_eq, ih b w, List.mem_cons]
    constructor
    · rintro ⟨hab, hm, hwf⟩
      refine ⟨?_, hm, hwf⟩
      rintro c (rfl | hc)
      · exact hab
      · exact hab.trans (hm c hc)
    · rintro ⟨hall, hm, hwf⟩
      exact ⟨hall (b, w) (Or.inl rfl), hm, hwf⟩

theorem Memory.mem_write {α : Type} {m : List (Nat × α)} {a : Nat} {v : α} {c : Nat × α}
    (h : c ∈ Memory.write m a v) : c = (a, v) ∨ c ∈ m := by
  induction m with
  | nil => simpa [Memory.write] using h
  | cons d m ih =>
    simp only [Memory.write] at h
    split at h
    · simpa using h
    · split at h
      · rcases List.mem_cons.mp h with h | h
        · exact Or.inl h
        · exact Or.inr (List.mem_cons_of_mem _ h)
      · rcases List.mem_cons.mp h with h | h
        · exact Or.inr (h ▸ List.mem_cons_self)
        · rcases ih h with h | h
          · exact Or.inl h
          · exact Or.inr (List.mem_cons_of_mem _ h)

/-- A write keeps the canonical form. -/
theorem Memory.wf_write {α : Type} {m : List (Nat × α)} (a : Nat) (v : α) (h : Memory.wf m = true) :
    Memory.wf (Memory.write m a v) = true := by
  induction m with
  | nil => rfl
  | cons d m ih =>
    obtain ⟨b, w⟩ := d
    obtain ⟨hlt, hm⟩ := (Memory.wf_cons b w m).mp h
    simp only [Memory.write]
    split
    · rename_i hab
      refine (Memory.wf_cons a v _).mpr ⟨fun c hc => ?_, h⟩
      rcases List.mem_cons.mp hc with rfl | hc
      · exact hab
      · exact hab.trans (hlt c hc)
    · split
      · rename_i hab
        subst hab
        exact (Memory.wf_cons a v m).mpr ⟨hlt, hm⟩
      · refine (Memory.wf_cons b w _).mpr ⟨fun c hc => ?_, ih hm⟩
        rcases Memory.mem_write hc with rfl | hc
        · show b < a
          omega
        · exact hlt c hc

/-- What a read gives is listed. -/
theorem Memory.mem_of_read {α : Type} {m : List (Nat × α)} {a : Nat} {v : α} (h : Memory.read m a = some v) :
    (a, v) ∈ m := by
  induction m with
  | nil => cases h
  | cons c m ih =>
    obtain ⟨b, w⟩ := c
    simp only [Memory.read] at h
    split at h
    · injection h with h
      simp_all
    · exact List.mem_cons_of_mem _ (ih h)

/-- Every memory operation keeps the canonical form: the writes here, and the allocations, which leave an empty list. -/
theorem bufWrite_keeps_wf (s : State) (a : Nat) (v : Byte) (h : Memory.wf s.buf = true) :
    Memory.wf (bufWrite s a v).buf = true := Memory.wf_write a v h

theorem samWrite_keeps_wf (s : State) (i : Nat) (w : Sample) (h : Memory.wf s.samples = true) :
    Memory.wf (samWrite s i w).samples = true := Memory.wf_write i w h

theorem allocBuf_keeps_wf (s : State) (n : BitVec 11) : Memory.wf (allocBuf s n).buf = true := rfl

theorem allocSamples_keeps_wf (s : State) (n : Byte) : Memory.wf (allocSamples s n).samples = true := rfl

theorem reset_memories_wf : Memory.wf State.reset.buf = true ∧ Memory.wf State.reset.samples = true := ⟨rfl, rfl⟩

end Sys2Proof.Machine
end

