-- ==== Sys2Proof/Laws/Ops.lean ====
section
/-! SUPPORT. What each shared operation can do: one lemma each, cited instead of unfolding it. -/
namespace Sys2Proof.Machine

theorem live_none {s : State} (h : s.fault = none) (k : Answer) : live s k = k := by simp [live, h]

theorem live_fault {s : State} {f : Fault} (h : s.fault = some f) (k : Answer) : live s k = .fault f := by
  simp [live, h]

/-- What `live` answers next is what its continuation answers, on a machine that has not stopped. -/
theorem live_next {s t : State} {k : Answer} (h : live s k = .next t) : s.fault = none ∧ k = .next t := by
  unfold live at h
  split at h
  · cases h
  · exact ⟨‹_›, h⟩

/-- `raise` changes the cell `fault` alone. -/
theorem raise_next {f : Fault} {s t : State} (h : raise f s = .next t) : t = { s with fault := some f } := by
  cases h; rfl

/-- A command is admitted at IDLE, and elsewhere turned away with nothing changed. -/
theorem whenIdle_next {s t : State} {k : Answer} (h : whenIdle s k = .next t) :
    (s.seqPc = .idle ∧ k = .next t) ∨ (s.seqPc ≠ .idle ∧ t = emit (.refused .busy) s) := by
  unfold whenIdle at h
  split at h
  · exact Or.inl ⟨‹_›, h⟩
  · cases h; exact Or.inr ⟨‹_›, rfl⟩

theorem whenIdle_pos {s : State} (h : s.seqPc = .idle) (k : Answer) : whenIdle s k = k := by simp [whenIdle, h]

theorem whenIdle_neg {s : State} (h : s.seqPc ≠ .idle) (k : Answer) :
    whenIdle s k = .next (emit (.refused .busy) s) := by simp [whenIdle, refuse, h]

/-- The four latches are all written and handed on, or one is unwritten and the read of it is recorded. -/
theorem withGroup_next {s t : State} {k : Byte → Byte → Byte → Byte → Answer} (h : withGroup s k = .next t) :
    (∃ g0 g1 g2 g3, s.grp = ⟨some g0, some g1, some g2, some g3⟩ ∧ k g0 g1 g2 g3 = .next t) ∨
      (∃ j : Fin 4, s.grp.get j = none ∧ t = { s with fault := some (.uninit .grp j.val) }) := by
  unfold withGroup at h
  obtain ⟨g, hg⟩ : ∃ g, s.grp = g := ⟨_, rfl⟩
  obtain ⟨g0, g1, g2, g3⟩ := g
  rw [hg] at h
  cases g0 with
  | none => exact Or.inr ⟨0, by rw [hg]; rfl, raise_next h⟩
  | some g0 =>
    cases g1 with
    | none => exact Or.inr ⟨1, by rw [hg]; rfl, raise_next h⟩
    | some g1 =>
      cases g2 with
      | none => exact Or.inr ⟨2, by rw [hg]; rfl, raise_next h⟩
      | some g2 =>
        cases g3 with
        | none => exact Or.inr ⟨3, by rw [hg]; rfl, raise_next h⟩
        | some g3 => exact Or.inl ⟨g0, g1, g2, g3, hg, h⟩

theorem withGroup_some {s : State} {g0 g1 g2 g3 : Byte} (h : s.grp = ⟨some g0, some g1, some g2, some g3⟩)
    (k : Byte → Byte → Byte → Byte → Answer) : withGroup s k = k g0 g1 g2 g3 := by simp [withGroup, h]

/-- The counter moves by exactly one, wrapping at eight bits. -/
theorem heartbeatAfter_eq (p : PState) (hb : Byte) :
    heartbeatAfter p hb = if p = .init then hb - 1 else hb + 1 := by
  have := hb.isLt
  apply BitVec.eq_of_toNat_eq
  unfold heartbeatAfter
  split <;> simp [BitVec.toNat_sub, BitVec.toNat_add]
  all_goals omega

/-- A group matches when all four bytes do. -/
@[simp] theorem groupIs_iff (c g0 g1 g2 g3 : Byte) :
    groupIs c g0 g1 g2 g3 = true ↔ g0 = c ∧ g1 = c ∧ g2 = c ∧ g3 = c := by
  simp [groupIs]

@[simp] theorem Group.get_put (g : Group) (k : Fin 4) (b : Byte) (j : Fin 4) :
    (g.put k b).get j = if j = k then some b else g.get j := by
  fin_cases k <;> fin_cases j <;> rfl

/-- A complete frame wraps, any other state is left as it is. -/
theorem wrap_cases (s : State) :
    (s.pos.toNat = s.bufLen.toNat ∧ wrap s = { s with dataAvail := true, pos := 0, pstate := .awaitingHeader }) ∨
      (s.pos.toNat ≠ s.bufLen.toNat ∧ wrap s = s) := by
  unfold wrap
  split
  · exact Or.inl ⟨‹_›, rfl⟩
  · exact Or.inr ⟨‹_›, rfl⟩

/-- A payload byte is outside the buffer, or completes the frame, or is stored with more to come. -/
theorem collect_next {rx : Byte} {s t : State} (h : collect rx s = .next t) :
    (s.bufLen.toNat ≤ s.pos.toNat ∧ t = { s with fault := some (.posRange s.pos s.bufLen) }) ∨
      (s.pos.toNat < s.bufLen.toNat ∧ (s.pos + 1).toNat = s.bufLen.toNat ∧
        t = { s with
          hb := heartbeatAfter s.pstate s.hb, out := .tx s.hb :: s.out,
          buf := Memory.write s.buf s.pos.toNat rx, dataAvail := true, pos := 0, pstate := .awaitingHeader }) ∨
      (s.pos.toNat < s.bufLen.toNat ∧ (s.pos + 1).toNat ≠ s.bufLen.toNat ∧
        t = { s with
          hb := heartbeatAfter s.pstate s.hb, out := .tx s.hb :: s.out,
          buf := Memory.write s.buf s.pos.toNat rx, pos := s.pos + 1 }) := by
  unfold collect at h
  split at h
  · exact Or.inl ⟨‹_›, raise_next h⟩
  · have hlt : s.pos.toNat < s.bufLen.toNat := by omega
    injection h with h
    rcases wrap_cases (storeAdvance rx (bytePrefix s)) with ⟨he, hw⟩ | ⟨hne, hw⟩
    · exact Or.inr (Or.inl ⟨hlt, he, by rw [← h, hw]; rfl⟩)
    · exact Or.inr (Or.inr ⟨hlt, hne, by rw [← h, hw]; rfl⟩)

/-- The head of the script is the next move. -/
theorem takeMove_cons {s : State} {m : Move} {rest : List Move} (h : s.script = m :: rest) :
    takeMove s = (m, { s with script := rest }) := by simp [takeMove, h]

/-- With nothing listed the next move is a free value. -/
theorem takeMove_nil {s : State} (h : s.script = []) :
    takeMove s = (Config.freeMove s.draws, { s with draws := s.draws + 1 }) := by simp [takeMove, h]

/-- Taking a move changes no cell of R20: only the script or the count of draws. -/
theorem takeMove_cells (s : State) :
    (takeMove s).2 = { s with script := (takeMove s).2.script, draws := (takeMove s).2.draws } := by
  unfold takeMove
  split <;> rfl

@[simp] theorem groupBase_toNat (idx : Byte) : (groupBase idx).toNat = 4 * idx.toNat := by
  have := idx.isLt
  simp only [groupBase, Config.document_wordBytes, BitVec.toNat_ofNat]
  omega

@[simp] theorem newLen_toNat (n : Byte) : (newLen n).toNat = 4 * n.toNat := by
  have := n.isLt
  simp only [newLen, Config.document_wordBytes, BitVec.toNat_ofNat]
  omega

end Sys2Proof.Machine
end

