-- ==== Sys2Proof/Laws/PerInstr.lean ====
section
/-! SUPPORT. What holds of every operation as syntax, one lemma per constructor (R91 to R93, R105). -/
namespace Sys2Proof.Laws.Selected

/-- An exchange that decodes to the operation carries its encoding, in a mode its row applies in; and the operation has an
encoding exactly when it has such a mode (R92, R105). -/
def Statement (i : Instr) : Prop :=
  (∀ (isrEn : Bool) (p : PState) (b : Byte),
      decode isrEn p b = i → i.wf = true ∧ encode i = some b ∧ i.selectedIn isrEn p = true) ∧
    (encode i = none ↔ ∀ (isrEn : Bool) (p : PState), i.selectedIn isrEn p = false)

/-- What an exchange decodes to is well-formed, carries the byte, and is selected in the mode. -/
theorem of_decode (isrEn : Bool) (p : PState) (b : Byte) :
    (decode isrEn p b).wf = true ∧ encode (decode isrEn p b) = some b ∧
      (decode isrEn p b).selectedIn isrEn p = true := by
  cases isrEn
  · exact ⟨rfl, rfl, rfl⟩
  cases p <;> try exact ⟨rfl, rfl, rfl⟩
  simp only [decode, if_true]
  split
  · subst b; exact ⟨rfl, rfl, rfl⟩
  split
  · subst b; exact ⟨rfl, rfl, rfl⟩
  split
  · subst b; exact ⟨rfl, rfl, rfl⟩
  · refine ⟨?_, rfl, rfl⟩
    simp_all [Instr.wf, Config.isHeader]

/-- The first half, for any operation. -/
theorem decoded {i : Instr} (isrEn : Bool) (p : PState) (b : Byte) (h : decode isrEn p b = i) :
    i.wf = true ∧ encode i = some b ∧ i.selectedIn isrEn p = true := h ▸ of_decode isrEn p b

/-- An operation with an encoding and a mode. -/
theorem onWire {i : Instr} {b : Byte} (isrEn : Bool) (p : PState) (he : encode i = some b)
    (hs : i.selectedIn isrEn p = true) : Statement i :=
  ⟨decoded, by simp [he], fun h => absurd (h isrEn p) (by simp [hs])⟩

/-- An operation with neither. -/
theorem offWire {i : Instr} (he : encode i = none) (hs : ∀ isrEn p, i.selectedIn isrEn p = false) : Statement i :=
  ⟨decoded, fun _ => hs, fun _ => he⟩

theorem hbNop : Statement .hbNop := onWire true .awaitingHeader rfl rfl
theorem msgHdr : Statement .msgHdr := onWire true .awaitingHeader rfl rfl
theorem cfgHdr : Statement .cfgHdr := onWire true .awaitingHeader rfl rfl
theorem ign (rx : Byte) : Statement (.ign rx) := onWire true .awaitingHeader rfl rfl
theorem collectInit (rx : Byte) : Statement (.collectInit rx) := onWire true .init rfl rfl
theorem collectCfg (rx : Byte) : Statement (.collectCfg rx) := onWire true .receivingConfig rfl rfl
theorem collectMsg (rx : Byte) : Statement (.collectMsg rx) := onWire true .receivingMessage rfl rfl
theorem dropped (rx : Byte) : Statement (.dropped rx) := onWire false .init rfl rfl
theorem beginCmd (part : BeginPart) : Statement (.beginCmd part) := offWire rfl fun _ _ => rfl
theorem readCmd (part : ReadPart) : Statement (.readCmd part) := offWire rfl fun _ _ => rfl
theorem lengthCmd : Statement .lengthCmd := offWire rfl fun _ _ => rfl
theorem getCmd (k : Int) : Statement (.getCmd k) := offWire rfl fun _ _ => rfl
theorem suspend : Statement .suspend := offWire rfl fun _ _ => rfl
theorem resume : Statement .resume := offWire rfl fun _ _ => rfl
theorem rearm : Statement .rearm := offWire rfl fun _ _ => rfl
theorem sessionInit : Statement .sessionInit := offWire rfl fun _ _ => rfl
theorem waitDa : Statement .waitDa := offWire rfl fun _ _ => rfl
theorem clearDa : Statement .clearDa := offWire rfl fun _ _ => rfl
theorem sigAssert : Statement .sigAssert := offWire rfl fun _ _ => rfl
theorem sigDeassert : Statement .sigDeassert := offWire rfl fun _ _ => rfl
theorem loadGrp (a : BitVec 10) (k : Fin 4) : Statement (.loadGrp a k) := offWire rfl fun _ _ => rfl
theorem checkSentinel : Statement .checkSentinel := offWire rfl fun _ _ => rfl
theorem checkAck : Statement .checkAck := offWire rfl fun _ _ => rfl
theorem latchCfg : Statement .latchCfg := offWire rfl fun _ _ => rfl
theorem checkCfg : Statement .checkCfg := offWire rfl fun _ _ => rfl
theorem realloc : Statement .realloc := offWire rfl fun _ _ => rfl
theorem allocSam : Statement .allocSam := offWire rfl fun _ _ => rfl
theorem storeSam : Statement .storeSam := offWire rfl fun _ _ => rfl
theorem connect : Statement .connect := offWire rfl fun _ _ => rfl
theorem requestFrame (ret : Label) : Statement (.requestFrame ret) := offWire rfl fun _ _ => rfl
theorem requestConfig : Statement .requestConfig := offWire rfl fun _ _ => rfl

end Sys2Proof.Laws.Selected
end

