-- ==== Sys2Proof/Laws/Step.lean ====
section
/-! SUPPORT. What a step can do, said once. -/
namespace Sys2Proof.Machine

theorem stepMove_reset (s : State) : stepMove .reset s = .next (resetCells s) := by simp [stepMove]

theorem stepMove_instr {m : Move} {s : State} {i : Instr} (hm : m ≠ .reset) (hf : s.fault = none)
    (hi : fetch m s = some i) : stepMove m s = exec i s := by simp [stepMove, hm, live_none hf, hi]

theorem stepMove_none {m : Move} {s : State} (hm : m ≠ .reset) (hf : s.fault = none)
    (hi : fetch m s = none) : stepMove m s = .next s := by simp [stepMove, hm, live_none hf, hi]

/-- A move that answers a next state is a reset, an operation run on a machine that has not stopped, or a turn of the
sequencer that has no micro-op. -/
theorem stepMove_next {m : Move} {s t : State} (h : stepMove m s = .next t) :
    (m = .reset ∧ t = resetCells s) ∨
      (m ≠ .reset ∧ s.fault = none ∧ ∃ i, fetch m s = some i ∧ exec i s = .next t) ∨
      (m = .seq ∧ s.fault = none ∧ s.seqPc = .idle ∧ t = s) := by
  unfold stepMove at h
  split at h
  · cases h; exact Or.inl ⟨‹_›, rfl⟩
  · rename_i hm
    obtain ⟨hf, h⟩ := live_next h
    split at h
    · exact Or.inr (Or.inl ⟨hm, hf, _, ‹_›, h⟩)
    · rename_i hi
      cases h
      refine Or.inr (Or.inr ?_)
      cases m with
      | rx b => cases hi
      | cmd c => cases hi
      | reset => exact absurd rfl hm
      | seq =>
        refine ⟨rfl, hf, ?_, rfl⟩
        simp only [fetch, microInstr] at hi
        split at hi <;> first | assumption | cases hi

/-- A step takes the next move and makes it. -/
theorem step_cons {s : State} {m : Move} {rest : List Move} (h : s.script = m :: rest) :
    step s = stepMove m { s with script := rest } := by simp [step, takeMove_cons h]

theorem step_nil {s : State} (h : s.script = []) :
    step s = stepMove (Config.freeMove s.draws) { s with draws := s.draws + 1 } := by simp [step, takeMove_nil h]

end Sys2Proof.Machine
end

