-- ==== Sys2Proof/Laws/Run.lean ====
section
/-! SUPPORT. Runs, and what soundness does not depend on. -/
namespace Sys2Proof.Machine

@[simp] theorem run_zero (s : State) : run 0 s = .next s := rfl

theorem run_succ {s t : State} (h : step s = .next t) (k : Nat) : run (k + 1) s = run k t := by simp [run, h]

/-- A run can be cut anywhere. -/
theorem run_add {j : Nat} {s t : State} (h : run j s = .next t) (k : Nat) : run (j + k) s = run k t := by
  induction j generalizing s with
  | zero =>
    cases h
    rw [Nat.zero_add]
  | succ j ih =>
    rw [Nat.succ_add]
    simp only [run] at h ⊢
    split at h
    · exact ih h
    · cases h
    · cases h

/-- The first byte sent stands last among the outputs. -/
theorem outputsOf_succ_last (f : Nat → Byte) (n : Nat) :
    outputsOf f (n + 1) = outputsOf (fun k => f (k + 1)) n ++ [.tx (f 0)] := by
  induction n with
  | zero => rfl
  | succ n ih => rw [outputsOf, ih]; rfl

/-- The outputs of two runs of exchanges, the later ones first. -/
theorem outputsOf_add (f : Nat → Byte) (m n : Nat) :
    outputsOf f (m + n) = outputsOf (fun k => f (m + k)) n ++ outputsOf f m := by
  induction n with
  | zero => rfl
  | succ n ih => rw [← Nat.add_assoc, outputsOf, ih]; rfl

/-- A recorded fault leaves a sound state sound. -/
theorem State.Inv.withFault {s : State} (h : s.Inv) (f : Option Fault) : State.Inv { s with fault := f } :=
  { h with }

/-- The model's own fields, the parameters apart, are no part of soundness. -/
theorem State.Inv.withScript {s : State} (h : s.Inv) (script : List Move) (draws : Nat) (out : List Output) :
    State.Inv { s with script := script, draws := draws, out := out } :=
  { h with }

end Sys2Proof.Machine
end

