-- ==== Sys2Proof/Tests/Slice0.lean ====
section
/-! SUPPORT. Small tests, each about one step or one word, with the expected result from the spec (the vectors of
95_test_vectors.md, or the encodings of 30_encoding.md), and for every obligation with hypotheses a state that meets them. -/
namespace Sys2Proof.Tests
open Sys2Proof.Machine

/-- The next state, where there is one. -/
def nextState (o : Host.Outcome State Fault Refusal) : Option State :=
  match o with
  | .next t => some t
  | .fault _ => none
  | .refused _ => none

/-- One value of the next state. -/
def after {α : Type} (o : Host.Outcome State Fault Refusal) (f : State → α) : Option α := (nextState o).map f

/-- The newest output of the next state. -/
def sent (o : Host.Outcome State Fault Refusal) : Option Output := (nextState o).bind fun t => t.out.head?

/-- `UP(n)` of the spec's vectors: negotiated, at IDLE, waiting for a header (its latches apart). -/
def up (n : Byte) : State :=
  { State.reset with
    pstate := .awaitingHeader, bufLen := newLen n, hb := 0x06, dataType := 0x01, sampleCount := n, samLen := n,
    isrEn := true, session := .up }

/-- The handshake held at H4, nothing received (V-R2). -/
def held : State := { State.reset with isrEn := true, seqPc := .h4 }

/-- `s` at a label. -/
def at_ (l : Label) (s : State) : State := { s with seqPc := l }

/-- `s` with its four latches written. -/
def latched (b0 b1 b2 b3 : Byte) (s : State) : State := { s with grp := ⟨some b0, some b1, some b2, some b3⟩ }

/-- `s` with its first four buffer bytes written. -/
def filled (b0 b1 b2 b3 : Byte) (s : State) : State := { s with buf := [(0, b0), (1, b1), (2, b2), (3, b3)] }

/-- `s` with moves placed. -/
def placed (script : List Move) (s : State) : State := { s with script := script }

/-! ### Well-formedness: an ill-formed term for each check, and its well-formed neighbours -/

theorem test_wf_ign_poll : (Instr.ign 0x10).wf = false ∧ (Instr.ign 0x11).wf = true := by decide
theorem test_wf_ign_message : (Instr.ign 0x20).wf = false ∧ (Instr.ign 0x21).wf = true := by decide
theorem test_wf_ign_config : (Instr.ign 0x30).wf = false ∧ (Instr.ign 0x2F).wf = true := by decide
theorem test_wf_group_alignment : (Instr.loadGrp 2 0).wf = false ∧ (Instr.loadGrp 4 3).wf = true := by decide
theorem test_wf_group_range : (Instr.loadGrp 1020 0).wf = false ∧ (Instr.loadGrp 1016 3).wf = true := by decide
theorem test_wf_return_label : (Instr.requestFrame .idle).wf = false ∧ (Instr.requestFrame .a2).wf = true := by decide

/-! ### Decoding: bytes written out from the dispatch table (R92, R93, R98) -/

theorem test_decode_poll : decode true .awaitingHeader 0b00010000 = .hbNop := by decide
theorem test_decode_message : decode true .awaitingHeader 0b00100000 = .msgHdr := by decide
theorem test_decode_config : decode true .awaitingHeader 0b00110000 = .cfgHdr := by decide
theorem test_decode_ignored : decode true .awaitingHeader 0b00010001 = .ign 0x11 := by decide
theorem test_decode_payload_init : decode true .init 0b00100000 = .collectInit 0x20 := by decide
theorem test_decode_payload_cfg : decode true .receivingConfig 0b00110000 = .collectCfg 0x30 := by decide
theorem test_decode_payload_msg : decode true .receivingMessage 0b00010000 = .collectMsg 0x10 := by decide
theorem test_decode_dropped : decode false .awaitingHeader 0b00010000 = .dropped 0x10 := by decide
theorem test_decode_refuses_wide : decodeTableWord 16 0x10 = none := by decide
theorem test_decode_refuses_no_bits : decodeTableWord 0 0 = none := by decide
theorem test_decode_refuses_high_bits : decodeTableWord 8 0x110 = none := by decide
theorem test_decode_table_word : decodeTableWord 8 0x30 = some .cfgHdr := by decide
theorem test_encode_command_has_none : encode (.getCmd 0) = none ∧ encode .waitDa = none := by decide
theorem test_state_codes : [PState.init, .awaitingHeader, .receivingConfig, .receivingMessage].map PState.code = [0, 1, 2, 3] := by
  decide
theorem test_fetch_word_runs : after (step (State.reset.withFetchWord 8 0x20)) (·.pstate) = some .receivingMessage := by
  decide

/-! ### The wire operations -/

/-- V-D1. -/
theorem test_poll : sent (exec .hbNop (up 3)) = some (.tx 0x06) ∧ after (exec .hbNop (up 3)) (·.hb) = some 0x07 := by decide
/-- V-D6: FF wraps upward to 00. -/
theorem test_poll_wraps : after (exec .hbNop { up 3 with hb := 0xFF }) (·.hb) = some 0x00 := by decide
/-- V-D2. -/
theorem test_msg_hdr : after (exec .msgHdr (up 3)) (fun t => (t.pstate, t.pos, t.buf)) = some (.receivingMessage, 0, []) := by
  decide
/-- V-D3. -/
theorem test_cfg_hdr : after (exec .cfgHdr (up 3)) (fun t => (t.pstate, t.hb)) = some (.receivingConfig, 0x07) := by decide
/-- V-D4. -/
theorem test_ign : after (exec (.ign 0xFF) (up 3)) (fun t => (t.pstate, t.hb)) = some (.awaitingHeader, 0x07) := by decide
/-- V-A4: the heartbeat goes down in Init, 00 to FF. -/
theorem test_collect_init : after (exec (.collectInit 0x12) held) (fun t => (t.buf, t.pos, t.pstate, t.hb)) =
    some ([(0, 0x12)], 1, .init, 0xFF) := by decide
/-- V-D7: the exchange that wraps and leaves Init still decrements. -/
theorem test_collect_init_wraps :
    after (exec (.collectInit 0xFF) { held with pos := 3, hb := 0xFE }) (fun t => (t.pstate, t.pos, t.dataAvail, t.hb)) =
      some (.awaitingHeader, 0, true, 0xFD) := by decide
/-- V-A1. -/
theorem test_collect_cfg :
    after (exec (.collectCfg 0x03) { up 1 with pstate := .receivingConfig, pos := 1 }) (fun t => (t.buf, t.pos, t.pstate)) =
      some ([(1, 0x03)], 2, .receivingConfig) := by decide
/-- S3: the twelfth byte completes the frame. -/
theorem test_collect_msg_wraps :
    after (exec (.collectMsg 0xBF) { up 3 with pstate := .receivingMessage, pos := 11, hb := 0x12 })
      (fun t => (t.pstate, t.pos, t.dataAvail, t.hb)) = some (.awaitingHeader, 0, true, 0x13) := by decide
/-- V-E10. -/
theorem test_pos_range :
    after (exec (.collectMsg 0x00) { up 1 with pstate := .receivingMessage, pos := 4 }) (fun t => (t.fault, t.buf, t.pos)) =
      some (some (.posRange 4 4), [], 4) := by decide
/-- V-E6: no cell changes. -/
theorem test_dropped : after (exec (.dropped 0x10) State.reset) (fun t => (t.hb, t.pos, t.buf)) = some (0x00, 0, []) := by
  decide

/-! ### Commands -/

/-- R183: `begin` goes to B1. -/
theorem test_begin : after (exec (.beginCmd .command) State.reset) (·.seqPc) = some .b1 := by decide
/-- R193: its completion. -/
theorem test_begin_completes :
    after (exec (.beginCmd .complete) (at_ .n9 held)) (fun t => (t.session, t.seqPc, t.out)) =
      some (.up, .idle, [.done true]) := by decide
/-- V-E8: NotReady, nothing changes. -/
theorem test_read_not_ready :
    after (exec (.readCmd .command) State.reset) (fun t => (t.seqPc, t.out)) = some (.idle, [.refused .notReady]) := by decide
/-- R194: A3 leaves the loop when every sample is decoded. -/
theorem test_read_loop_ends : after (exec (.readCmd .loopTest) { at_ .a3 (up 3) with idx := 3 }) (·.seqPc) = some .a6 := by
  decide
/-- V-B6: `length` of UP(3), and Busy at H4. -/
theorem test_length : sent (exec .lengthCmd (up 3)) = some (.length 3) ∧ sent (exec .lengthCmd held) = some (.refused .busy) := by
  decide
/-- V-B4. -/
theorem test_get : sent (exec (.getCmd 0) { up 1 with samples := [(0, 0x7FC00001)] }) = some (.sample 0x7FC00001) := by decide
/-- V-E4, V-E5. -/
theorem test_get_faults :
    [3, -1, 0].map (fun k => after (exec (.getCmd k) (up 3)) (·.fault)) =
      [some (some (.indexRange 3 3)), some (some (.indexRange (-1) 3)), some (some (.uninit .sam 0))] := by decide

/-! ### Micro-ops -/

/-- R198. -/
theorem test_suspend : after (exec .suspend (at_ .h1 held)) (fun t => (t.isrEn, t.seqPc)) = some (false, .h2) := by decide
/-- R199. -/
theorem test_resume : after (exec .resume { at_ .b3 held with isrEn := false }) (fun t => (t.isrEn, t.seqPc)) =
    some (true, .h1) := by decide
/-- R160; V-H4: the buffer keeps its bytes. -/
theorem test_rearm :
    after (exec .rearm (filled 0 0 1 0 { at_ .h2 (up 1) with dataAvail := true })) (fun t => (t.pstate, t.pos, t.dataAvail, t.buf)) =
      some (.init, 0, false, [(0, 0), (1, 0), (2, 1), (3, 0)]) := by decide
/-- V-B8; and R262: the latches and the return label go back to their reset values. -/
theorem test_session_init :
    after (exec .sessionInit { at_ .b2 (up 3) with buf := [(0, 1)], samples := [(0, 1)], hb := 0x20 })
      (fun t => (t.bufLen, t.buf, t.samLen, t.hb)) = some (4, [], 0, 0x20) ∧
      after (exec .sessionInit (latched 1 2 3 4 { at_ .b2 (up 3) with ret := .a2 })) (fun t => (t.grp, t.ret)) =
        some (⟨none, none, none, none⟩, .idle) := by decide
/-- R182: held without a frame, on with one. -/
theorem test_wait :
    after (exec .waitDa held) (·.seqPc) = some .h4 ∧
      after (exec .waitDa { held with dataAvail := true }) (·.seqPc) = some .h5 := by decide
/-- R162. -/
theorem test_clear : after (exec .clearDa { at_ .h5 held with dataAvail := true }) (fun t => (t.dataAvail, t.seqPc)) =
    some (false, .h6a) := by decide
/-- R181, R185: H8 asserts and, under the default, goes to H10; under `HS_ACK_REARM` to H9a (V-H6). -/
theorem test_assert :
    after (exec .sigAssert (at_ .h8 held)) (fun t => (t.sig, t.seqPc)) = some (.asserted, .h10) ∧
      after (exec .sigAssert { at_ .h8 held with params := { hsAckRearm := true } }) (·.seqPc) = some .h9a := by decide
/-- R187. -/
theorem test_deassert : after (exec .sigDeassert { at_ .f4 held with sig := .asserted, ret := .n2a })
    (fun t => (t.sig, t.seqPc)) = some (.deasserted, .n2a) := by decide
/-- R194: the second sample's third byte; then V-Z4, an unwritten byte. -/
theorem test_load :
    after (exec (.loadGrp 4 2) { at_ .a4c (up 2) with buf := [(6, 0xAB)] }) (fun t => (t.grp.b2, t.seqPc)) =
      some (some 0xAB, .a4d) ∧
      after (exec (.loadGrp 0 0) (at_ .a4a (up 2))) (·.fault) = some (some (.uninit .buf 0)) := by decide
/-- V-H1, V-H2. -/
theorem test_sentinel :
    after (exec .checkSentinel (latched 0xFF 0xFF 0xFF 0xFF (at_ .h7 held))) (·.seqPc) = some .h8 ∧
      after (exec .checkSentinel (latched 0xFF 0xFF 0xFF 0x01 (at_ .h7 held))) (·.seqPc) = some .h1 := by decide
/-- S1, V-H4. -/
theorem test_ack :
    after (exec .checkAck (latched 0 0 0 0 (at_ .h12 held))) (·.seqPc) = some .n1 ∧
      after (exec .checkAck (latched 0 0 1 0 (at_ .h12 held))) (·.seqPc) = some .h1 := by decide
/-- V-B1: the reserved bytes are accepted. -/
theorem test_latch :
    after (exec .latchCfg (latched 0x01 0x02 0xAA 0x55 (at_ .n3 held))) (fun t => (t.dataType, t.sampleCount, t.rsv0, t.rsv1)) =
      some (0x01, 0x02, 0xAA, 0x55) := by decide
/-- V-E1, V-E2, V-E3. -/
theorem test_check_cfg :
    [(0x02, 0x03), (0x01, 0x00), (0x02, 0x00)].map (fun d => after
      (exec .checkCfg { at_ .n4 held with dataType := d.1, sampleCount := d.2 }) (·.fault)) =
      [some (some (.badDataType 0x02)), some (some .zeroSampleCount), some (some (.badDataType 0x02))] := by decide
/-- S2, V-B2. -/
theorem test_realloc :
    [(3 : Byte), 255].map (fun n => after (exec .realloc { at_ .n6 held with buf := [(0, 1)], sampleCount := n })
      (fun t => (t.bufLen, t.buf))) = [some (12, []), some (1020, [])] := by decide
/-- R230: a failing allocation. -/
theorem test_realloc_fails :
    after (exec .realloc { at_ .n6 held with sampleCount := 3, params := { allocFail := [12] } }) (fun t => (t.fault, t.bufLen)) =
      some (some (.allocFail 12), 4) := by decide
/-- S2. -/
theorem test_alloc_sam :
    after (exec .allocSam { at_ .n8 held with sampleCount := 3 }) (fun t => (t.samLen, t.samples, t.seqPc)) =
      some (3, [], .n9) := by decide
/-- V-B4, V-B5. -/
theorem test_store_sam :
    after (exec .storeSam (latched 0x01 0x00 0xC0 0x7F (at_ .a5 (up 1)))) (fun t => (t.samples, t.idx, t.seqPc)) =
      some ([(0, 0x7FC00001)], 1, .a3) ∧
      after (exec .storeSam { latched 0x3F 0x80 0x00 0x00 (at_ .a5 (up 1)) with params := { endian := .big } }) (·.samples) =
        some [(0, 0x3F800000)] := by decide
/-- R161. -/
theorem test_connect : after (exec .connect State.reset) (·.seqPc) = some .h1 := by decide
/-- R201. -/
theorem test_request_frame : after (exec (.requestFrame .a2) (at_ .a1 (up 1))) (fun t => (t.ret, t.seqPc)) = some (.a2, .f1) := by
  decide
/-- R203. -/
theorem test_request_config : after (exec .requestConfig (at_ .n1 held)) (fun t => (t.ret, t.seqPc)) = some (.n2a, .f1) := by
  decide
/-- R246: nothing runs on a stopped machine; R260: reset does. -/
theorem test_stopped :
    nextState (step (placed [.rx 0x10] { up 1 with fault := some .zeroSampleCount })) = none ∧
      after (step (placed [.reset] { up 1 with fault := some .zeroSampleCount })) (·.fault) = some none := by decide

/-! ### Sound states for the witnesses -/

/-- Written cells of a concrete list lie below a bound. -/
theorem inside {α : Type} {m : List (Nat × α)} {n : Nat} (h : ∀ c ∈ m, c.1 < n) :
    ∀ a v, Memory.read m a = some v → a < n := fun _ _ hr => h _ (Memory.mem_of_read hr)

/-- `UP(n)` is sound, whatever is placed and recorded. -/
theorem up_inv (n : Byte) (h : n ≠ 0) (script : List Move) : (placed script (up n)).Inv := by
  have h1 : n.toNat ≠ 0 := fun e => h (BitVec.eq_of_toNat_eq e)
  have h2 := n.isLt
  refine ⟨rfl, inside (by simp [placed, up, State.reset]), rfl, inside (by simp [placed, up, State.reset]), ?_, ?_, ?_, ?_,
    ?_, ?_, ?_, ?_, ?_, ?_, ?_, ?_⟩ <;>
    simp [placed, up, State.reset, deliveryAt, State.phaseSound, phaseOf, State.negotiated, pastWait, latchesFilled,
      newLen_toNat] <;>
    first | exact h | omega

/-- The held handshake is sound. -/
theorem held_inv (script : List Move) : (placed script held).Inv := by
  refine ⟨rfl, inside (by simp [placed, held, State.reset]), rfl, inside (by simp [placed, held, State.reset]), ?_, ?_, ?_, ?_,
    ?_, ?_, ?_, ?_, ?_, ?_, ?_, ?_⟩ <;>
    simp [placed, held, State.reset, deliveryAt, State.phaseSound, phaseOf, pastWait, readsWholeBuffer, latchesFilled]

/-- One payload byte short of a frame under UP(1), with the last byte arriving. -/
def lastByte : State := placed [.rx 0xFF] { up 1 with pstate := .receivingMessage, pos := 3 }

theorem lastByte_inv : lastByte.Inv := by
  have h := up_inv 1 (by decide) [.rx 0xFF]
  exact { h with
    posInside := by decide, headerAtZero := fun e => (by cases e), initNoFrame := fun e => (by cases e),
    phase := ⟨rfl, fun _ => ⟨⟨rfl, by decide, by decide⟩, by decide⟩, fun e => (by cases e)⟩,
    leftInit := fun e => (by cases e), filled := fun e => (by cases e) }

/-- A frame completed for `read`, about to be cleared at F3. -/
def clearing : State := placed [.seq] { at_ .f3 (up 1) with dataAvail := true, ret := .a2 }

theorem clearing_inv : clearing.Inv := by
  have h := up_inv 1 (by decide) [.seq]
  exact { h with
    initNoFrame := nofun, delivery := rfl, rearmLabels := fun _ => (by decide),
    phase := ⟨rfl, ⟨rfl, by decide, by decide⟩, rfl, nofun, nofun⟩, leftInit := fun _ => nofun, filled := nofun,
    latches := fun _ e => absurd e (Nat.not_lt_zero _) }

/-- `n` written cells from address `a` on, each holding the low byte of its own address. -/
def cells (a : Nat) : Nat → List (Nat × Byte)
  | 0 => []
  | n + 1 => (a, BitVec.ofNat 8 a) :: cells (a + 1) n

theorem mem_cells {a n : Nat} {c : Nat × Byte} (h : c ∈ cells a n) : a ≤ c.1 ∧ c.1 < a + n := by
  induction n generalizing a with
  | zero => cases h
  | succ n ih =>
    rcases List.mem_cons.mp h with rfl | h
    · exact ⟨le_refl _, by simp⟩
    · have := ih h; omega

theorem cells_wf (a n : Nat) : Memory.wf (cells a n) = true := by
  induction n generalizing a with
  | zero => rfl
  | succ n ih => exact (Memory.wf_cons _ _ _).mpr ⟨fun _ h => (mem_cells h).1, ih _⟩

theorem cells_written {a n k : Nat} (h1 : a ≤ k) (h2 : k < a + n) : (Memory.read (cells a n) k).isSome := by
  induction n generalizing a with
  | zero => omega
  | succ n ih =>
    simp only [cells, Memory.read]
    split
    · rfl
    · exact ih (by omega) (by omega)

/-- READ at A2 with a whole frame of `n` samples written, and the turns that decode it. -/
def readLoop (n : Byte) : State :=
  placed (List.replicate (6 * n.toNat + 3) .seq) { at_ .a2 (up n) with buf := cells 0 (4 * n.toNat) }

theorem readLoop_inv (n : Byte) (h : n ≠ 0) : (readLoop n).Inv := by
  have h' := up_inv n h []
  have hn : (newLen n).toNat = 4 * n.toNat := newLen_toNat n
  exact { h' with
    bufWf := cells_wf _ _,
    bufInside := inside fun c hc => (by have := (mem_cells hc).2; simp only [readLoop, placed, at_, up, hn]; omega),
    delivery := rfl, rearmLabels := fun _ => ⟨nofun, nofun, nofun⟩, phase := ⟨rfl, ⟨rfl, h, hn⟩, rfl, nofun, nofun⟩,
    leftInit := fun _ => nofun, filled := nofun, latches := fun _ e => absurd e (Nat.not_lt_zero _) }

/-! ### Witnesses: for every obligation with hypotheses, states and operands that meet all of them -/

theorem witness_ResetEventRestoresEveryCell :
    (placed [.reset] { up 3 with fault := some .zeroSampleCount }).script = .reset :: [] := by decide

theorem witness_EveryStepKeepsTheInvariant :
    (placed [.rx 0x10] (up 3)).Inv ∧ ∃ t, step (placed [.rx 0x10] (up 3)) = .next t :=
  ⟨up_inv 3 (by decide) _, _, rfl⟩

theorem witness_StepRunsTheDecodedExchange :
    (placed [.rx 0x20] (up 3)).fault = none ∧ (placed [.rx 0x20] (up 3)).script = .rx 0x20 :: [] := by decide

theorem witness_StepRunsTheCommandOrMicroOp :
    (∃ s : State, s.fault = none ∧ s.script = .cmd (.get (-1)) :: []) ∧
      (∃ s : State, s.fault = none ∧ s.script = .seq :: [] ∧ microInstr s = some .waitDa) ∧
      ∃ s : State, s.fault = none ∧ s.script = .seq :: [] ∧ s.seqPc = .idle :=
  ⟨⟨placed [.cmd (.get (-1))] (up 3), by decide⟩, ⟨placed [.seq] held, by decide⟩, placed [.seq] (up 3), by decide⟩

theorem witness_UnplacedMoveIsFree : State.reset.script = [] := by decide

theorem witness_SequencerFollowsTheProgram_rows :
    ((Label.b1, Instr.suspend) ∈ programRows ∧ (at_ .b1 held).seqPc = .b1) ∧
      ((Label.a6, Instr.readCmd .complete) ∈ programRows ∧ (at_ .a6 (up 3)).seqPc = .a6) ∧
      ((Label.a4d, (3 : Fin 4)) ∈ [(Label.a4a, 0), (.a4b, 1), (.a4c, 2), (.a4d, 3)] ∧ (at_ .a4d (up 3)).seqPc = .a4d) ∧
      (up 3).seqPc = .idle :=
  by decide

theorem witness_SequencerFollowsTheProgram_edges :
    (∃ s t : State, s.seqPc = .f4 ∧ microInstr s = some .sigDeassert ∧ exec .sigDeassert s = .next t ∧ t.fault = none) ∧
      (∃ s t : State, microInstr s = some .waitDa ∧ exec .waitDa s = .next t ∧ t.fault = none) ∧
      ∃ s t : State, s.seqPc = .h8 ∧ microInstr s = some .sigAssert ∧ exec .sigAssert s = .next t :=
  ⟨⟨at_ .f4 held, _, rfl, rfl, rfl, rfl⟩, ⟨held, _, rfl, rfl, rfl⟩, at_ .h8 held, _, rfl, rfl, rfl⟩

theorem witness_FaultedMachineHasNoStep :
    (placed [.rx 0x10] { up 3 with fault := some (.badDataType 0x02) }).fault = some (.badDataType 0x02) ∧
      (placed [.rx 0x10] { up 3 with fault := some (.badDataType 0x02) }).script = .rx 0x10 :: [] ∧
      Move.rx 0x10 ≠ .reset := by decide

theorem witness_SoundMachineRaisesOnlyTheseFaults :
    (placed [.cmd (.get 0)] (up 3)).Inv ∧ (placed [.cmd (.get 0)] (up 3)).fault = none ∧
      ∃ t f, step (placed [.cmd (.get 0)] (up 3)) = .next t ∧ t.fault = some f :=
  ⟨up_inv 3 (by decide) _, by decide, _, _, rfl, rfl⟩

theorem witness_ParametersNeverChange : ∃ t, step (placed [.rx 0x10] (up 3)) = .next t := ⟨_, rfl⟩

theorem witness_PollAndIgnoredHeaderOnlyBeat :
    (up 3).fault = none ∧ (up 3).pstate = .awaitingHeader ∧
      ((0x11 : Byte) ≠ 0x10 ∧ (0x11 : Byte) ≠ 0x20 ∧ (0x11 : Byte) ≠ 0x30) := by decide

theorem witness_FrameHeaderStartsCollecting : (up 255).fault = none ∧ (up 255).pstate = .awaitingHeader := by decide

/-- In each collecting state, at the first and at the last position but one. -/
theorem witness_PayloadByteIsStored :
    (∃ s : State, s.fault = none ∧ s.pos.toNat + 1 < s.bufLen.toNat ∧ s.pos = 0 ∧ s.pstate = .init) ∧
      (∃ s : State, s.fault = none ∧ s.pos.toNat + 1 < s.bufLen.toNat ∧ s.pos = 1018 ∧ s.pstate = .receivingConfig) ∧
      ∃ s : State, s.fault = none ∧ s.pos.toNat + 1 < s.bufLen.toNat ∧ s.pos = 2 ∧ s.pstate = .receivingMessage :=
  ⟨⟨held, by decide⟩, ⟨{ up 255 with pos := 1018, pstate := .receivingConfig }, by decide⟩,
    { up 1 with pos := 2, pstate := .receivingMessage }, by decide⟩

/-- In each collecting state, with the least and the greatest buffer. -/
theorem witness_LastPayloadByteWraps :
    (∃ s : State, s.fault = none ∧ s.pos.toNat + 1 = s.bufLen.toNat ∧ s.bufLen.toNat ≤ 1020 ∧ s.pstate = .init) ∧
      (∃ s : State, s.fault = none ∧ s.pos.toNat + 1 = s.bufLen.toNat ∧ s.bufLen.toNat = 1020 ∧
        s.pstate = .receivingMessage) ∧
      ∃ s : State, s.fault = none ∧ s.pos.toNat + 1 = s.bufLen.toNat ∧ s.bufLen.toNat = 4 ∧ s.pstate = .receivingConfig :=
  ⟨⟨{ held with pos := 3 }, by decide⟩, ⟨{ up 255 with pos := 1019, pstate := .receivingMessage }, by decide⟩,
    { up 1 with pos := 3, pstate := .receivingConfig }, by decide⟩

theorem witness_PayloadOutsideTheBufferFaults :
    ∃ s : State, s.fault = none ∧ s.bufLen.toNat = s.pos.toNat ∧
      Instr.collectMsg 0 ∈ [Instr.collectInit 0, .collectCfg 0, .collectMsg 0] :=
  ⟨{ up 1 with pos := 4 }, by decide⟩

theorem witness_DroppedExchangeChangesNothing : State.reset.fault = none := by decide

/-- In Init and outside it; with nothing between the two exchanges, and with a turn and a command there. -/
theorem witness_HeartbeatDirectionShowsInit :
    ∀ between ∈ [[], [Move.seq, .cmd .length]],
      (∀ m ∈ between, m = .seq ∨ ∃ c, m = .cmd c) ∧
        (∃ s t u : State, s.Inv ∧ s.fault = none ∧ s.isrEn = true ∧ s.pstate = .init ∧
          s.script = .rx 0xFF :: between ++ .rx 0xFE :: [] ∧ step s = .next t ∧ run between.length t = .next u ∧
          u.fault = none ∧ u.isrEn = true) ∧
        ∃ s t u : State, s.Inv ∧ s.fault = none ∧ s.isrEn = true ∧ s.pstate ≠ .init ∧
          s.script = .rx 0x10 :: between ++ .rx 0x20 :: [] ∧ step s = .next t ∧ run between.length t = .next u ∧
          u.fault = none ∧ u.isrEn = true := by
  intro between hb
  simp only [List.mem_cons, List.not_mem_nil, or_false] at hb
  rcases hb with rfl | rfl
  · exact ⟨nofun, ⟨_, _, _, held_inv (.rx 0xFF :: [] ++ .rx 0xFE :: []), rfl, rfl, rfl, rfl, rfl, rfl, rfl, rfl⟩,
      _, _, _, up_inv 3 (by decide) (.rx 0x10 :: [] ++ .rx 0x20 :: []), rfl, rfl, nofun, rfl, rfl, rfl, rfl, rfl⟩
  · exact ⟨by simp, ⟨_, _, _, held_inv (.rx 0xFF :: [.seq, .cmd .length] ++ .rx 0xFE :: []), rfl, rfl, rfl, rfl, rfl, rfl,
        rfl, rfl⟩,
      _, _, _, up_inv 3 (by decide) (.rx 0x10 :: [.seq, .cmd .length] ++ .rx 0x20 :: []), rfl, rfl, nofun, rfl, rfl, rfl,
      rfl, rfl⟩

theorem witness_ExchangeLeavesTheSequencerAlone :
    (placed [.rx 0x30] (up 3)).script = .rx 0x30 :: [] ∧ ∃ t, step (placed [.rx 0x30] (up 3)) = .next t :=
  ⟨by decide, _, rfl⟩

/-- A turn, a command and the reset event. -/
theorem witness_OnlyExchangesAndResetWriteTheHeartbeat :
    ∀ m ∈ [Move.seq, .cmd .length, .reset], (∀ b, m ≠ .rx b) ∧ ∃ s t : State, s.script = m :: [] ∧ step s = .next t := by
  intro m hm
  simp only [List.mem_cons, List.not_mem_nil, or_false] at hm
  rcases hm with rfl | rfl | rfl
  · exact ⟨nofun, placed [.seq] held, _, rfl, rfl⟩
  · exact ⟨nofun, placed [.cmd .length] (up 3), _, rfl, rfl⟩
  · exact ⟨nofun, placed [.reset] (up 3), _, rfl, rfl⟩

theorem witness_HeaderStateIsLeftOnlyByAFrameHeader :
    (up 3).pstate = .awaitingHeader ∧
      (∃ t, step (placed [.rx 0x20] (up 3)) = .next t ∧ t.pstate ≠ .awaitingHeader) ∧
      ∃ t, step (placed [.rx 0x30] (up 3)) = .next t ∧ t.pstate ≠ .awaitingHeader :=
  ⟨by decide, ⟨_, rfl, by decide⟩, _, rfl, by decide⟩

theorem witness_FrameFlagIsSetOnlyByAWrap :
    lastByte.Inv ∧ lastByte.script = .rx 0xFF :: [] ∧ lastByte.dataAvail = false ∧
      ∃ t, step lastByte = .next t ∧ t.dataAvail = true :=
  ⟨lastByte_inv, by decide, by decide, _, rfl, by decide⟩

theorem witness_FramedPayloadIsCollected :
    ∃ s : State, s.Inv ∧ s.fault = none ∧ s.isrEn = true ∧ s.pstate = .awaitingHeader ∧ s.dataAvail = false ∧
      [0x10, 0x20, 0x30, (0xFF : Byte)].length = s.bufLen.toNat ∧
      s.script = .rx 0x20 :: [0x10, 0x20, 0x30, 0xFF].map Move.rx ++ [] :=
  ⟨_, up_inv 1 (by decide) (.rx 0x20 :: [0x10, 0x20, 0x30, 0xFF].map Move.rx ++ []), by decide⟩

theorem witness_HeartbeatIgnoresTheReceivedByte :
    (up 1).Inv ∧ (up 1).isrEn = true ∧ (∃ t, step { up 1 with script := [.rx 0x10] } = .next t) ∧
      ∃ u, step { up 1 with script := [.rx 0x20] } = .next u :=
  ⟨up_inv 1 (by decide) [], by decide, ⟨_, rfl⟩, _, rfl⟩

theorem witness_BeginAndReadAtIdle :
    (∃ s : State, s.fault = none ∧ s.seqPc = .idle ∧ s.session = .up) ∧
      ∃ s : State, s.fault = none ∧ s.seqPc = .idle ∧ s.session = .down :=
  ⟨⟨up 3, by decide⟩, State.reset, by decide⟩

theorem witness_BusyCommandsAreTurnedAway : held.fault = none ∧ held.seqPc ≠ .idle := by decide

theorem witness_LengthReturnsTheSampleCount : (up 255).fault = none ∧ (up 255).seqPc = .idle := by decide

theorem witness_GetReturnsTheSample :
    ∃ s : State, s.fault = none ∧ s.seqPc = .idle ∧ 2 < s.samLen.toNat ∧ samRead s 2 = some 0xBF800000 :=
  ⟨{ up 3 with samples := [(2, 0xBF800000)] }, by decide⟩

theorem witness_GetOutOfRangeOrUnwrittenFaults :
    ((up 3).fault = none ∧ (up 3).seqPc = .idle) ∧ ((-1 : Int) < 0 ∨ ((up 3).samLen.toNat : Int) ≤ -1) ∧
      ((3 : Int) < 0 ∨ ((up 3).samLen.toNat : Int) ≤ 3) ∧ (2 < (up 3).samLen.toNat ∧ samRead (up 3) 2 = none) := by decide

theorem witness_BeginCompletesWithTrue : (at_ .n9 held).fault = none := by decide

theorem witness_ReadLoopSteps :
    (∃ s : State, s.fault = none ∧ s.idx = s.sampleCount) ∧ ∃ s : State, s.fault = none ∧ s.idx ≠ s.sampleCount :=
  ⟨⟨{ up 3 with idx := 3 }, by decide⟩, { up 3 with idx := 2 }, by decide⟩

theorem witness_SuspendAndResumeGateDelivery : (at_ .h1 held).fault = none := by decide

theorem witness_WaitHoldsUntilAFrameCompletes :
    (∃ s : State, s.fault = none ∧ s.dataAvail = false) ∧ ∃ s : State, s.fault = none ∧ s.dataAvail = true :=
  ⟨⟨held, by decide⟩, { held with dataAvail := true }, by decide⟩

theorem witness_ClearDropsTheFrameFlag : { at_ .h5 held with dataAvail := true }.fault = none := by decide

theorem witness_SignalLineIsDriven : (at_ .h8 held).fault = none ∧ { at_ .f4 held with ret := .a2 }.fault = none := by decide

theorem witness_LoadFillsOneLatch :
    (filled 1 2 3 4 (up 1)).fault = none ∧ bufRead (filled 1 2 3 4 (up 1)) ((0 : BitVec 10).toNat + (3 : Fin 4).val) = some 4 := by
  decide

theorem witness_UnwrittenReadsFault :
    (∃ s : State, s.fault = none ∧ bufRead s ((0 : BitVec 10).toNat + (0 : Fin 4).val) = none) ∧
      (∃ s : State, s.fault = none ∧ s.grp.get 0 = none ∧ ∀ j : Fin 4, j < 0 → (s.grp.get j).isSome) ∧
      ∃ s : State, s.fault = none ∧ s.grp.get 3 = none ∧ (∀ j : Fin 4, j < 3 → (s.grp.get j).isSome) ∧
        Instr.storeSam ∈ [Instr.checkSentinel, .checkAck, .latchCfg, .storeSam] :=
  ⟨⟨up 1, by decide⟩, ⟨held, by decide⟩, { held with grp := ⟨some 1, some 2, some 3, none⟩ }, by decide⟩

theorem witness_SubsequencesAreEntered : (at_ .h10 held).fault = none := by decide

theorem witness_FrameRequestAsAWhole :
    (∃ s : State, s.fault = none ∧ s.seqPc = .f1 ∧ s.dataAvail = true ∧ s.script = List.replicate 4 .seq ++ []) ∧
      ∃ s : State, s.fault = none ∧ s.seqPc = .f1 ∧ s.dataAvail = false ∧ s.script = List.replicate (1 + 0) .seq ++ [] :=
  ⟨⟨{ placed [.seq, .seq, .seq, .seq] (at_ .f1 (up 1)) with dataAvail := true }, by decide⟩,
    placed [.seq] (at_ .f1 (up 1)), by decide⟩

/-- A turn, a command, and the clear at F3 of a completed frame. -/
theorem witness_OnlyTheFrameFlagIsWrittenWithoutSuspension :
    ((placed [.seq] held).Inv ∧ held.isrEn = true ∧ ∃ t, step (placed [.seq] held) = .next t) ∧
      ((placed [.cmd .length] (up 3)).Inv ∧ (up 3).isrEn = true ∧ ∃ t, step (placed [.cmd .length] (up 3)) = .next t) ∧
      clearing.Inv ∧ clearing.isrEn = true ∧ clearing.seqPc = .f3 ∧ clearing.dataAvail = true ∧
      clearing.script = .seq :: [] ∧ ∃ t, step clearing = .next t :=
  ⟨⟨held_inv _, by decide, _, rfl⟩, ⟨up_inv 3 (by decide) _, by decide, _, rfl⟩, clearing_inv, by decide, by decide,
    by decide, by decide, _, rfl⟩

theorem witness_SessionInitStartsAFreshSession : (at_ .b2 (up 3)).fault = none := by decide

theorem witness_RearmReturnsToInit : (at_ .h2 (up 1)).fault = none := by decide

/-- Both windows, with no exchange, and with exchanges on both sides of the write. -/
theorem witness_RearmWindowDropsExchanges :
    ∀ p ∈ [(Label.h1, Label.h4), (.h9a, .h10)], ∀ d ∈ [([], []), ([0xFF, 0x10], [(0x20 : Byte)])], ∃ s : State,
      s.fault = none ∧ s.seqPc = p.1 ∧
        s.script = .seq :: d.1.map Move.rx ++ .seq :: d.2.map Move.rx ++ .seq :: [] :=
  fun p _ d _ =>
    ⟨placed (.seq :: d.1.map Move.rx ++ .seq :: d.2.map Move.rx ++ .seq :: []) (at_ p.1 held), rfl, rfl, rfl⟩

theorem witness_SentinelTestBranches :
    ∃ s : State, s.fault = none ∧ s.grp = ⟨some 0xFF, some 0xFF, some 0xFF, some 0xFF⟩ :=
  ⟨latched 0xFF 0xFF 0xFF 0xFF held, by decide⟩

theorem witness_AckTestBranches :
    ∃ s : State, s.fault = none ∧ s.grp = ⟨some 0x80, some 0, some 0, some 0⟩ :=
  ⟨latched 0x80 0 0 0 held, by decide⟩

theorem witness_SentinelGroupIsTestedWhole :
    ∃ s : State, s.fault = none ∧ s.seqPc = .h4 ∧ s.dataAvail = true ∧ bufRead s 0 = some 0xFF ∧ bufRead s 1 = some 0xFF ∧
      bufRead s 2 = some 0xFF ∧ bufRead s 3 = some 1 ∧ s.script = List.replicate 7 .seq ++ [] :=
  ⟨{ placed (List.replicate 7 .seq) (filled 0xFF 0xFF 0xFF 1 held) with dataAvail := true }, by decide⟩

theorem witness_DescriptorIsLatched :
    ∃ s : State, s.fault = none ∧ s.grp = ⟨some 2, some 0, some 0xAA, some 0x55⟩ :=
  ⟨latched 2 0 0xAA 0x55 held, by decide⟩

theorem witness_DescriptorComesFromTheBuffer :
    ∃ s : State, s.fault = none ∧ s.seqPc = .n2a ∧ bufRead s 0 = some 1 ∧ bufRead s 1 = some 3 ∧ bufRead s 2 = some 0 ∧
      bufRead s 3 = some 0 ∧ s.script = List.replicate 5 .seq ++ [] :=
  ⟨placed (List.replicate 5 .seq) (filled 1 3 0 0 (at_ .n2a held)), by decide⟩

theorem witness_DescriptorCheck :
    (∃ s : State, s.fault = none ∧ s.dataType = 0x01 ∧ s.sampleCount ≠ 0) ∧
      (∃ s : State, s.fault = none ∧ s.dataType ≠ 0x01 ∧ s.sampleCount = 0) ∧
      ∃ s : State, s.fault = none ∧ s.dataType = 0x01 ∧ s.sampleCount = 0 :=
  ⟨⟨{ held with dataType := 1, sampleCount := 255 }, by decide⟩, ⟨{ held with dataType := 2 }, by decide⟩,
    { held with dataType := 1 }, by decide⟩

theorem witness_ReallocEmptiesAndResizes :
    ∃ s : State, s.fault = none ∧ s.params.allocFail ≠ [] ∧
      ∀ n ∈ s.params.allocFail, n.toNat ≠ 4 * s.sampleCount.toNat :=
  ⟨{ at_ .n6 held with sampleCount := 3, params := { allocFail := [1020] } }, by decide⟩

theorem witness_FailedAllocationFaults :
    ∃ s : State, s.fault = none ∧ (1020 : BitVec 11) ∈ s.params.allocFail ∧
      (1020 : BitVec 11).toNat = 4 * s.sampleCount.toNat :=
  ⟨{ at_ .n6 held with sampleCount := 255, params := { allocFail := [1020] } }, by decide⟩

theorem witness_SampleArrayIsAllocated : { at_ .n8 held with sampleCount := 255 }.fault = none := by decide

theorem witness_SampleIsStored :
    (∃ s : State, s.fault = none ∧ s.grp = ⟨some 1, some 2, some 3, some 4⟩ ∧ s.idx.toNat < s.samLen.toNat ∧
        s.params.endian = .little) ∧
      ∃ s : State, s.fault = none ∧ s.grp = ⟨some 1, some 2, some 3, some 4⟩ ∧ s.idx.toNat < s.samLen.toNat ∧
        s.params.endian = .big :=
  ⟨⟨latched 1 2 3 4 (up 1), by decide⟩,
    { latched 1 2 3 4 { up 255 with idx := 254 } with params := { endian := .big } }, by decide⟩

theorem witness_SampleOutsideTheArrayFaults :
    ∃ s : State, s.fault = none ∧ s.grp = ⟨some 1, some 2, some 3, some 4⟩ ∧ s.samLen.toNat = s.idx.toNat :=
  ⟨latched 1 2 3 4 { up 1 with idx := 1 }, by decide⟩

/-- For every sample count, from 1 to 255. -/
theorem witness_NegotiationSetsTheLengths (n : Byte) :
    ∃ s : State, s.fault = none ∧ s.seqPc = .n2a ∧ bufRead s 0 = some 0x01 ∧ bufRead s 1 = some n ∧
      bufRead s 2 = some 0xAA ∧ bufRead s 3 = some 0x55 ∧ (∀ k ∈ s.params.allocFail, k.toNat ≠ 4 * n.toNat) ∧
      s.script = List.replicate 11 .seq ++ [] :=
  ⟨placed (List.replicate 11 .seq) (filled 1 n 0xAA 0x55 (at_ .n2a held)), rfl, rfl, rfl, rfl, rfl, rfl, nofun, rfl⟩

/-- For every sample count, from 1 to 255. -/
theorem witness_ReadDecodesEverySample (n : Byte) (h : n ≠ 0) :
    (readLoop n).Inv ∧ (readLoop n).fault = none ∧ (readLoop n).seqPc = .a2 ∧ (readLoop n).sampleCount = n ∧
      (∀ a, a < (readLoop n).bufLen.toNat → (bufRead (readLoop n) a).isSome) ∧
      (readLoop n).script = List.replicate (6 * (readLoop n).sampleCount.toNat + 3) .seq ++ [] := by
  have hn : (readLoop n).bufLen.toNat = 4 * n.toNat := newLen_toNat n
  refine ⟨readLoop_inv n h, rfl, rfl, rfl, fun a ha => ?_, (List.append_nil _).symm⟩
  rw [bufRead, if_pos ha]
  exact cells_written (Nat.zero_le a) (by omega)

theorem witness_DecodeOfEncodeIsTheInstruction :
    ((Instr.ign 0x11).wf = true ∧ (Instr.ign 0x11).selectedIn true .awaitingHeader = true ∧ encode (.ign 0x11) = some 0x11) ∧
      ((Instr.dropped 0xFF).wf = true ∧ (Instr.dropped 0xFF).selectedIn false .init = true ∧
        encode (.dropped 0xFF) = some 0xFF) := by decide

end Sys2Proof.Tests
end

section
/-! PROOFS. No step changes a parameter (R8, R62), and with nothing placed the next move is a free value (R10, R72). -/
namespace Sys2Proof.Machine

/-- An answer to `s` keeps the parameters when the next state it gives, if any, has those of `s` (R8). -/
def KeepsParams (s : State) (a : Answer) : Prop := ∀ t, a = .next t → t.params = s.params

namespace KeepsParams

variable {s : State} {a b : Answer}

theorem next {t : State} (h : t.params = s.params) : KeepsParams s (.next t) := by
  rintro _ ⟨⟩
  exact h

theorem live (h : KeepsParams s a) : KeepsParams s (live s a) :=
  fun t ht => h t (live_next ht).2

theorem raise {f : Fault} : KeepsParams s (raise f s) := next rfl

theorem ite {c : Prop} [Decidable c] (ha : KeepsParams s a) (hb : KeepsParams s b) :
    KeepsParams s (if c then a else b) := by
  split
  · exact ha
  · exact hb

theorem whenIdle (h : KeepsParams s a) : KeepsParams s (whenIdle s a) := ite h (next rfl)

theorem withGroup {k : Byte → Byte → Byte → Byte → Answer} (h : ∀ g0 g1 g2 g3, KeepsParams s (k g0 g1 g2 g3)) :
    KeepsParams s (withGroup s k) := by
  intro t ht
  obtain ⟨g0, g1, g2, g3, _, hk⟩ | ⟨_, _, rfl⟩ := withGroup_next ht
  · exact h g0 g1 g2 g3 t hk
  · rfl

theorem collect (rx : Byte) : KeepsParams s (collect rx s) := by
  intro t ht
  obtain ⟨_, rfl⟩ | ⟨_, _, rfl⟩ | ⟨_, _, rfl⟩ := collect_next ht <;> rfl

theorem execBegin (part : BeginPart) : KeepsParams s (execBegin part s) := by
  cases part with
  | command => exact live (whenIdle (next rfl))
  | complete => exact live (next rfl)

theorem execRead (part : ReadPart) : KeepsParams s (execRead part s) := by
  cases part with
  | command => exact live (whenIdle (ite (next rfl) (next rfl)))
  | clearIdx | loopTest | complete => exact live (next rfl)

theorem execGet (i : Int) : KeepsParams s (execGet i s) := by
  refine live (whenIdle (ite raise ?_))
  split
  · exact next rfl
  · exact raise

theorem execWaitDa : KeepsParams s (execWaitDa s) := by
  refine live (next ?_)
  split <;> rfl

theorem execLoadGrp (a : BitVec 10) (k : Fin 4) : KeepsParams s (execLoadGrp a k s) := by
  refine live ?_
  split
  · exact next rfl
  · exact raise

/-- Every operation of R90 keeps the parameters: by its row. -/
theorem exec (i : Instr) : KeepsParams s (exec i s) := by
  cases i with
  | hbNop | msgHdr | cfgHdr | ign | dropped => exact live (next rfl)
  | collectInit rx | collectCfg rx | collectMsg rx => exact live (collect rx)
  | beginCmd part => exact execBegin part
  | readCmd part => exact execRead part
  | lengthCmd => exact live (whenIdle (next rfl))
  | getCmd i => exact execGet i
  | suspend | resume | rearm | sessionInit | clearDa | sigAssert | sigDeassert | allocSam => exact live (next rfl)
  | waitDa => exact execWaitDa
  | loadGrp a k => exact execLoadGrp a k
  | checkSentinel | checkAck | latchCfg => exact live (withGroup fun _ _ _ _ => next rfl)
  | checkCfg => exact live (ite raise (ite raise (next rfl)))
  | realloc => exact live (ite raise (next rfl))
  | storeSam => exact live (withGroup fun _ _ _ _ => ite raise (next rfl))
  | connect | requestFrame | requestConfig => exact live (next rfl)

/-- So does every move, the reset event included (log 27). -/
theorem stepMove (m : Move) : KeepsParams s (stepMove m s) := by
  intro t ht
  obtain ⟨_, rfl⟩ | ⟨_, _, i, _, hi⟩ | ⟨_, _, _, rfl⟩ := stepMove_next ht
  · rfl
  · exact exec i t hi
  · rfl

end KeepsParams

@[simp] theorem takeMove_params (s : State) : (takeMove s).2.params = s.params := by rw [takeMove_cells]

/-- Settles O10: taking a move leaves the parameters, and so does making it. -/
theorem parametersNeverChange : Obligations.ParametersNeverChange := by
  intro s t h
  rw [KeepsParams.stepMove _ t h, takeMove_params]

/-- Settles O6: the step with nothing placed and the step that has the free value placed make the same move. -/
theorem unplacedMoveIsFree : Obligations.UnplacedMoveIsFree := by
  intro s h
  rw [step_nil h, step_cons rfl, h]

end Sys2Proof.Machine
end

section
/-! PROOFS. What an answer gives next, and the equations of the invariant's clauses by phase. -/
namespace Sys2Proof.Machine

/-- The next state of an answer, if it gives one, has the property. -/
def Gives (P : State → Prop) (a : Answer) : Prop := ∀ t, a = .next t → P t

namespace Gives

variable {P : State → Prop} {s : State} {a b : Answer}

theorem next {t : State} (h : P t) : Gives P (.next t) := by
  rintro _ ⟨⟩
  exact h

theorem live (h : Gives P a) : Gives P (live s a) := fun t ht => h t (live_next ht).2

theorem raise {f : Fault} (h : P { s with fault := some f }) : Gives P (raise f s) := next h

theorem ite {c : Prop} [Decidable c] (ha : c → Gives P a) (hb : ¬c → Gives P b) : Gives P (if c then a else b) := by
  split
  · exact ha ‹_›
  · exact hb ‹_›

/-- At IDLE the command's own answer, elsewhere Busy (R183). -/
theorem whenIdle (ha : s.seqPc = .idle → Gives P a) (hb : P (emit (.refused .busy) s)) : Gives P (whenIdle s a) :=
  ite ha fun _ => next hb

theorem withGroup {k : Byte → Byte → Byte → Byte → Answer} (hk : ∀ g0 g1 g2 g3, Gives P (k g0 g1 g2 g3))
    (hf : ∀ f, P { s with fault := some f }) : Gives P (withGroup s k) := by
  intro t ht
  obtain ⟨g0, g1, g2, g3, _, ht⟩ | ⟨_, _, rfl⟩ := withGroup_next ht
  · exact hk g0 g1 g2 g3 t ht
  · exact hf _

end Gives

section
variable {s : State}

theorem phaseSound_rest (h : phaseOf s.seqPc s.ret = .rest) :
    s.phaseSound ↔ s.samLen = s.sampleCount ∧ (s.session = .up → s.negotiated ∧ s.pstate ≠ .init) ∧
      (s.session = .down → s.bufLen.toNat = 4) := by simp only [State.phaseSound, h]

theorem phaseSound_handshake (h : phaseOf s.seqPc s.ret = .handshake) :
    s.phaseSound ↔ s.session = .down ∧ s.bufLen.toNat = 4 ∧ s.samLen = 0 ∧
      (s.seqPc = .n5 ∨ s.seqPc = .n6 → s.dataType = Config.document.dtFloat ∧ s.sampleCount ≠ 0) := by
  simp only [State.phaseSound, h]

theorem phaseSound_resized (h : phaseOf s.seqPc s.ret = .resized) :
    s.phaseSound ↔ s.session = .down ∧ s.negotiated ∧ s.samLen = 0 := by simp only [State.phaseSound, h]

theorem phaseSound_sized (h : phaseOf s.seqPc s.ret = .sized) :
    s.phaseSound ↔ s.session = .down ∧ s.negotiated ∧ s.samLen = s.sampleCount := by simp only [State.phaseSound, h]

theorem phaseSound_reading (h : phaseOf s.seqPc s.ret = .reading) :
    s.phaseSound ↔ s.session = .up ∧ s.negotiated ∧ s.samLen = s.sampleCount ∧
      (s.seqPc = .a3 → s.idx.toNat ≤ s.sampleCount.toNat) ∧
      (decodesSample s.seqPc = true → s.idx.toNat < s.sampleCount.toNat) := by simp only [State.phaseSound, h]

end

/-- The position `(l', r')` of the sequencer asks nothing of the byte machine that `(l, r)` did not ask, or that a completed
frame does not give. -/
structure Label.Follows (hsAckRearm frame : Bool) (l r l' r' : Label) : Prop where
  handshake : phaseOf l' r' = .handshake → phaseOf l r = .handshake
  wait : pastWait hsAckRearm l' r' = true → frame = true ∨ pastWait hsAckRearm l r = true
  reads : readsWholeBuffer l' = true → frame = true ∨ readsWholeBuffer l = true
  rearm : hsAckRearm = false → l' ≠ .h9a ∧ l' ≠ .h9b ∧ l' ≠ .h9c

/-- The column "then" of R181 asks no more of the byte machine, past a wait once a frame has completed: except where a
session starts, and where a frame is requested or answered, which `ret` decides. -/
theorem Label.follows_succ {hsAckRearm frame : Bool} {l r : Label} (hl : l ∉ [.b2, .h10, .n1, .a1, .f4])
    (hw : l = .h4 ∨ l = .f2 → frame = true) (hr : hsAckRearm = false → l ≠ .h9a ∧ l ≠ .h9b ∧ l ≠ .h9c) :
    Follows hsAckRearm frame l r (succ hsAckRearm l) r := by
  cases l with
  | h8 => cases hsAckRearm <;> constructor <;> simp [succ, phaseOf, pastWait, readsWholeBuffer]
  | _ => constructor <;> simp_all [succ, phaseOf, pastWait, readsWholeBuffer]

/-- Two positions of one phase, the second testing nothing about the session that the first does not. -/
structure Label.SamePhase (l r l' r' : Label) : Prop where
  phase : phaseOf l' r' = phaseOf l r
  negotiates : l' = .n5 ∨ l' = .n6 → l = .n5 ∨ l = .n6
  loops : l' = .a3 → l = .a3
  decodes : decodesSample l' = true → decodesSample l = true

/-- The labels that R181 leaves by a jump, or for another phase, or on a test passed. -/
def Label.phaseEnds : List Label := [.b2, .h10, .n1, .n4, .n6, .n8, .n9, .f4, .a1, .a2, .a3, .a5, .a6]

/-- Elsewhere the column "then" of R181 stays in the phase. -/
theorem Label.samePhase_succ {hsAckRearm : Bool} {l r : Label} (hl : l ∉ phaseEnds) :
    SamePhase l r (succ hsAckRearm l) r := by
  cases l with
  | h8 => cases hsAckRearm <;> constructor <;> simp [succ, phaseOf, decodesSample]
  | _ => constructor <;> simp_all [phaseEnds, succ, phaseOf, decodesSample]

end Sys2Proof.Machine
end

section
/-! PROOFS. Moving the sequencer keeps a state sound. -/
namespace Sys2Proof.Machine

/-- The cells of the byte machine and of the two memories, which most turns of the sequencer leave alone, and the
parameters. -/
def State.stores (s : State) :
    PState × BitVec 10 × BitVec 11 × List Host.Cell × Bool × Byte × List (Nat × Sample) × Params :=
  (s.pstate, s.pos, s.bufLen, s.buf, s.dataAvail, s.samLen, s.samples, s.params)

/-- The cells whose values `State.phaseSound` compares, `pstate` apart. -/
def State.sessionCells (s : State) : Session × BitVec 11 × Byte × Byte × Byte × Byte :=
  (s.session, s.bufLen, s.samLen, s.dataType, s.sampleCount, s.idx)

/-- A move inside a phase keeps what the phase says of the session, and so does leaving Init. -/
theorem phaseSound_within {s t : State} (h : s.phaseSound) (cells : t.sessionCells = s.sessionCells)
    (hp : s.pstate ≠ .init → t.pstate ≠ .init) (within : Label.SamePhase s.seqPc s.ret t.seqPc t.ret) :
    t.phaseSound := by
  simp only [State.sessionCells, Prod.mk.injEq] at cells
  obtain ⟨hses, hlen, hsam, htype, hcount, hidx⟩ := cells
  obtain ⟨hphase, hneg, hloop, hdec⟩ := within
  simp only [State.phaseSound, State.negotiated, hphase, hses, hlen, hsam, htype, hcount, hidx] at h ⊢
  split at h
  case h_1 => exact ⟨h.1, fun e => ⟨(h.2.1 e).1, hp (h.2.1 e).2⟩, h.2.2⟩
  case h_2 => exact ⟨h.1, h.2.1, h.2.2.1, fun e => h.2.2.2 (hneg e)⟩
  case h_5 => exact ⟨h.1, h.2.1, h.2.2.1, fun e => h.2.2.2.1 (hloop e), fun e => h.2.2.2.2 (hdec e)⟩
  all_goals exact h

namespace State.Inv

variable {s t : State}

/-- Where the sequencer goes on without touching a store, soundness is a matter of its new position: the phase, delivery,
the latches, and what `Label.Follows` says. -/
theorem move (h : s.Inv) (same : t.stores = s.stores)
    (follows : Label.Follows s.params.hsAckRearm s.dataAvail s.seqPc s.ret t.seqPc t.ret) (phase : t.phaseSound)
    (delivery : t.isrEn = deliveryAt t.seqPc t.session)
    (latches : ∀ k : Fin 4, k.val < latchesFilled t.seqPc → (t.grp.get k).isSome) : t.Inv := by
  cases s
  cases t
  simp only [State.stores, Prod.mk.injEq] at same
  obtain ⟨rfl, rfl, rfl, rfl, rfl, rfl, rfl, rfl⟩ := same
  exact { h with
    delivery, phase, latches
    rearmLabels := follows.rearm
    leftInit := fun hw hinit => by
      obtain hframe | hw := follows.wait hw
      · exact Bool.noConfusion (hframe.symm.trans (h.initNoFrame hinit))
      · exact h.leftInit hw hinit
    filled := fun hh => by
      obtain ⟨hbelow, hwhole⟩ := h.filled (follows.handshake hh)
      exact ⟨hbelow, fun hr => hwhole (hr.elim .inl follows.reads)⟩ }

/-- The same inside a phase, where the session's cells stay. -/
theorem moveWithin (h : s.Inv) (same : t.stores = s.stores) (cells : t.sessionCells = s.sessionCells)
    (follows : Label.Follows s.params.hsAckRearm s.dataAvail s.seqPc s.ret t.seqPc t.ret)
    (within : Label.SamePhase s.seqPc s.ret t.seqPc t.ret)
    (delivery : t.isrEn = deliveryAt t.seqPc t.session)
    (latches : ∀ k : Fin 4, k.val < latchesFilled t.seqPc → (t.grp.get k).isSome) : t.Inv :=
  have hp : t.pstate = s.pstate := congrArg Prod.fst same
  h.move same follows (phaseSound_within h.phase cells (hp ▸ id) within) delivery latches

/-- The same along the column "then" of R181. -/
theorem advanced (h : s.Inv) (same : t.stores = s.stores) (cells : t.sessionCells = s.sessionCells)
    (hpc : t.seqPc = Label.succ s.params.hsAckRearm s.seqPc) (hret : t.ret = s.ret)
    (hl : s.seqPc ∉ Label.phaseEnds)
    (hw : s.seqPc = .h4 ∨ s.seqPc = .f2 → s.dataAvail = true)
    (delivery : t.isrEn = deliveryAt t.seqPc t.session)
    (latches : ∀ k : Fin 4, k.val < latchesFilled t.seqPc → (t.grp.get k).isSome) : t.Inv :=
  h.moveWithin same cells
    (hpc ▸ hret ▸ Label.follows_succ (by simp_all [Label.phaseEnds]) hw h.rearmLabels)
    (hpc ▸ hret ▸ Label.samePhase_succ hl) delivery latches

end State.Inv

end Sys2Proof.Machine
end

section
/-! PROOFS. Every micro-op of R181 keeps a sound state sound, at each of its labels. -/
namespace Sys2Proof.Machine

/-- A move inside a phase under unchanged delivery, to a label that reads no latch. -/
structure Label.Quiet (hsAckRearm frame : Bool) (session : Session) (l r l' r' : Label) : Prop extends
    Follows hsAckRearm frame l r l' r', SamePhase l r l' r' where
  delivery : deliveryAt l' session = deliveryAt l session
  latches : latchesFilled l' = 0

/-- The waits, the clears and the signal line go on quietly. -/
theorem Label.quiet_succ {hsAckRearm frame : Bool} {session : Session} {l r : Label}
    (hl : l ∈ [.h4, .h5, .h8, .f1, .f2, .f3]) (hw : l = .h4 ∨ l = .f2 → frame = true) :
    Quiet hsAckRearm frame session l r (succ hsAckRearm l) r := by
  simp only [List.mem_cons, List.not_mem_nil, or_false] at hl
  obtain rfl | rfl | rfl | rfl | rfl | rfl := hl
  case inr.inr.inl =>
    cases hsAckRearm <;> exact ⟨follows_succ (by simp) hw (by simp), samePhase_succ (by simp [phaseEnds]), rfl, rfl⟩
  all_goals exact ⟨follows_succ (by simp) hw (by simp), samePhase_succ (by simp [phaseEnds]), rfl, rfl⟩

/-- So do the jumps of R181 that stay in their phase: the admission of `begin`, the frame requests, the outcomes of the two
group tests, and the end of the decode loop. -/
theorem Label.quiet_jump {hsAckRearm frame : Bool} {session : Session} {l r l' r' : Label}
    (hj : (l, l', r') ∈ [(.idle, .b1, r), (.h10, .f1, .h11a), (.n1, .f1, .n2a), (.a1, .f1, .a2), (.h7, .h8, r),
      (.h7, .h1, r), (.h12, .n1, r), (.h12, .h1, r), (.a3, .a6, r)]) : Quiet hsAckRearm frame session l r l' r' := by
  simp only [List.mem_cons, Prod.mk.injEq, List.not_mem_nil, or_false] at hj
  obtain ⟨rfl, rfl, rfl⟩ | ⟨rfl, rfl, rfl⟩ | ⟨rfl, rfl, rfl⟩ | ⟨rfl, rfl, rfl⟩ | ⟨rfl, rfl, rfl⟩ | ⟨rfl, rfl, rfl⟩ |
    ⟨rfl, rfl, rfl⟩ | ⟨rfl, rfl, rfl⟩ | ⟨rfl, rfl, rfl⟩ := hj <;>
  refine ⟨⟨?_, ?_, ?_, ?_⟩, ⟨?_, ?_, ?_, ?_⟩, ?_, ?_⟩ <;>
  simp +contextual [phaseOf, pastWait, readsWholeBuffer, decodesSample, deliveryAt, latchesFilled]

/-- So does F4's return to the caller of the frame request (R187). -/
theorem Label.quiet_return {hsAckRearm frame : Bool} {session : Session} {r : Label} (hr : r ∈ [.h11a, .n2a, .a2]) :
    Quiet hsAckRearm frame session .f4 r r r := by
  simp only [List.mem_cons, List.not_mem_nil, or_false] at hr
  obtain rfl | rfl | rfl := hr <;>
  refine ⟨⟨?_, ?_, ?_, ?_⟩, ⟨?_, ?_, ?_, ?_⟩, ?_, ?_⟩ <;>
  simp [phaseOf, pastWait, readsWholeBuffer, decodesSample, deliveryAt, latchesFilled]

/-- The labels of R181 that load a latch, each with the latch. -/
def loadRows : List (Label × Fin 4) :=
  [(.h6a, 0), (.h6b, 1), (.h6c, 2), (.h6d, 3), (.h11a, 0), (.h11b, 1), (.h11c, 2), (.h11d, 3),
   (.n2a, 0), (.n2b, 1), (.n2c, 2), (.n2d, 3), (.a4a, 0), (.a4b, 1), (.a4c, 2), (.a4d, 3)]

/-- The load of latch `k` stands after the `k` loads of the latches below it. -/
theorem loadRows_succ (hsAckRearm : Bool) (p : Label × Fin 4) (hp : p ∈ loadRows) :
    latchesFilled p.1 = p.2.val ∧ latchesFilled (Label.succ hsAckRearm p.1) = p.2.val + 1 ∧
      (∀ session, deliveryAt p.1 session = true ∧ deliveryAt (Label.succ hsAckRearm p.1) session = true) ∧
      p.1 ∉ Label.phaseEnds ∧ p.1 ≠ .h4 ∧ p.1 ≠ .f2 := by
  revert p
  simp [loadRows, latchesFilled, Label.succ, deliveryAt, Label.phaseEnds]

namespace State.Inv

variable {s t : State}

/-- A quiet move that touches no store and no cell of the session. -/
theorem quietly (h : s.Inv) (same : t.stores = s.stores) (cells : t.sessionCells = s.sessionCells)
    (hisr : t.isrEn = s.isrEn)
    (quiet : Label.Quiet s.params.hsAckRearm s.dataAvail s.session s.seqPc s.ret t.seqPc t.ret) : t.Inv := by
  have hses : t.session = s.session := congrArg Prod.fst cells
  refine h.moveWithin same cells quiet.toFollows quiet.toSamePhase ?_ ?_
  · rw [hisr, hses, quiet.delivery, h.delivery]
  · simp [quiet.latches]

theorem cleared (h : s.Inv) : (clearDataAvail s).Inv :=
  { h with
    initNoFrame := fun _ => rfl
    filled := fun hh => by
      obtain ⟨hbelow, hwhole⟩ := h.filled hh
      exact ⟨hbelow, fun hr => hwhole (hr.elim nofun .inr)⟩ }

/-- Back to Init with nothing collected (R160), at a label of the handshake that asks for no frame. -/
theorem rearmed (h : s.Inv) (hphase : phaseOf s.seqPc s.ret = .handshake)
    (hw : pastWait s.params.hsAckRearm s.seqPc s.ret = false) (hr : readsWholeBuffer s.seqPc = false) :
    State.Inv { s with pstate := .init, pos := 0, dataAvail := false } :=
  { h with
    posInside := lt_of_lt_of_le (by decide : 0 < 4) h.lenLow
    headerAtZero := nofun
    initNoFrame := fun _ => rfl
    phase := (phaseSound_handshake (by exact hphase)).2 ((phaseSound_handshake hphase).1 h.phase)
    leftInit := fun e => absurd (hw.symm.trans e) nofun
    filled := fun _ => ⟨nofun, fun e => absurd e (by simp [hr])⟩ }

end State.Inv

namespace Gives

variable {s : State}

theorem suspend_inv (h : s.Inv) (hl : s.seqPc ∈ [.b1, .h1, .h9a, .n5]) : Gives State.Inv (exec .suspend s) := by
  simp only [List.mem_cons, List.not_mem_nil, or_false] at hl
  refine live (next (h.advanced rfl rfl rfl rfl ?_ ?_ ?_ ?_)) <;> rcases hl with hl | hl | hl | hl <;>
    simp [hl, Label.phaseEnds, Label.succ, deliveryAt, latchesFilled]

theorem resume_inv (h : s.Inv) (hl : s.seqPc ∈ [.b3, .h3, .h9c, .n7]) : Gives State.Inv (exec .resume s) := by
  simp only [List.mem_cons, List.not_mem_nil, or_false] at hl
  refine live (next (h.advanced rfl rfl rfl rfl ?_ ?_ ?_ ?_)) <;> rcases hl with hl | hl | hl | hl <;>
    simp [hl, Label.phaseEnds, Label.succ, deliveryAt, latchesFilled]

theorem rearm_inv (h : s.Inv) (hl : s.seqPc ∈ [.h2, .h9b]) : Gives State.Inv (exec .rearm s) := by
  simp only [List.mem_cons, List.not_mem_nil, or_false] at hl
  have hadv : (advance s).Inv := by
    refine h.advanced rfl rfl rfl rfl ?_ ?_ ?_ ?_ <;> rcases hl with hl | hl <;>
      simp [h.delivery, hl, Label.phaseEnds, Label.succ, deliveryAt, latchesFilled]
  refine live (next (hadv.rearmed ?_ ?_ ?_)) <;> rcases hl with hl | hl <;>
    simp [hl, Label.succ, phaseOf, pastWait, readsWholeBuffer]

theorem waitDa_inv (h : s.Inv) (hl : s.seqPc ∈ [.h4, .f2]) : Gives State.Inv (exec .waitDa s) := by
  refine live (next ?_)
  split
  · exact h.quietly rfl rfl rfl (Label.quiet_succ (by aesop) fun _ => ‹_›)
  · exact h

theorem clearDa_inv (h : s.Inv) (hl : s.seqPc ∈ [.h5, .f3]) : Gives State.Inv (exec .clearDa s) :=
  live (next (h.cleared.quietly rfl rfl rfl (Label.quiet_succ (by aesop) (by aesop))))

theorem sigAssert_inv (h : s.Inv) (hl : s.seqPc ∈ [.h8, .f1]) : Gives State.Inv (exec .sigAssert s) :=
  live (next (h.quietly rfl rfl rfl (Label.quiet_succ (by aesop) (by aesop))))

theorem loadGrp_inv (h : s.Inv) (a : BitVec 10) {k : Fin 4} (hl : (s.seqPc, k) ∈ loadRows) :
    Gives State.Inv (exec (.loadGrp a k) s) := by
  obtain ⟨hfilled, hfilled', hdel, hplain, hh4, hf2⟩ := loadRows_succ s.params.hsAckRearm _ hl
  refine live ?_
  split
  · refine next (h.advanced rfl rfl rfl rfl hplain (fun hw => absurd hw (not_or.2 ⟨hh4, hf2⟩)) ?_ fun j hj => ?_)
    · exact h.delivery.trans ((hdel s.session).1.trans (hdel s.session).2.symm)
    · have hj : j.val < k.val + 1 := hfilled' ▸ hj
      rw [advance_grp, Group.get_put]
      split
      · rfl
      · exact h.latches j (by simp only [hfilled]; omega)
  · exact raise (h.withFault _)

end Gives

end Sys2Proof.Machine
end

section
/-! PROOFS. The turns that move between the phases of a session. -/
namespace Sys2Proof.Machine

/-- The reset event leaves a sound state, whatever it found (R260). -/
theorem resetCells_inv (s : State) : (resetCells s).Inv where
  bufWf := rfl
  bufInside := nofun
  samWf := rfl
  samInside := nofun
  lenLow := (by decide : 4 ≤ 4)
  lenHigh := (by decide : 4 ≤ 1020)
  lenWords := (by decide : 4 % 4 = 0)
  posInside := (by decide : 0 < 4)
  headerAtZero := nofun
  initNoFrame := fun _ => rfl
  delivery := rfl
  rearmLabels := fun _ => ⟨nofun, nofun, nofun⟩
  phase := (phaseSound_rest rfl).2 ⟨rfl, nofun, fun _ => rfl⟩
  leftInit := nofun
  filled := nofun
  latches := nofun

/-- A frame request returns to one of its three callers (R201, R203). -/
theorem Label.caller_of_phaseOf {r : Label} (h : phaseOf .f4 r ≠ .stray) : r ∈ [.h11a, .n2a, .a2] := by
  cases r <;> simp_all [phaseOf]

namespace State.Inv

variable {s : State}

theorem emitted (h : s.Inv) (o : Output) : (emit o s).Inv := h.withScript s.script s.draws (o :: s.out)

theorem faulted (h : s.Inv) (f : Fault) : State.Inv { s with fault := some f } := h.withFault _

theorem not_stray (h : s.Inv) : phaseOf s.seqPc s.ret ≠ .stray := by
  intro hstray
  have hphase := h.phase
  simp only [State.phaseSound, hstray] at hphase

end State.Inv

namespace Gives

variable {s : State}

/-- SESSION_INIT leaves the cells of the reset event, at B3 (R184, R262). -/
theorem sessionInit_inv (h : s.Inv) (hl : s.seqPc = .b2) : Gives State.Inv (exec .sessionInit s) := by
  refine live (next { resetCells_inv s with
    delivery := ?_, rearmLabels := ?_, phase := (phaseSound_handshake ?_).2 ⟨rfl, rfl, rfl, ?_⟩, leftInit := ?_
    filled := fun _ => ⟨nofun, ?_⟩, latches := ?_ })
  all_goals simp [h.delivery, hl, Label.succ, deliveryAt, phaseOf, pastWait, readsWholeBuffer, latchesFilled]

theorem checkSentinel_inv (h : s.Inv) (hl : s.seqPc = .h7) : Gives State.Inv (exec .checkSentinel s) := by
  refine live (withGroup (fun g0 g1 g2 g3 => next (h.quietly rfl rfl rfl (Label.quiet_jump ?_))) h.faulted)
  rw [goto_seqPc]
  split <;> simp [hl]

theorem checkAck_inv (h : s.Inv) (hl : s.seqPc = .h12) : Gives State.Inv (exec .checkAck s) := by
  refine live (withGroup (fun g0 g1 g2 g3 => next (h.quietly rfl rfl rfl (Label.quiet_jump ?_))) h.faulted)
  rw [goto_seqPc]
  split <;> simp [hl]

theorem requestFrame_inv (h : s.Inv) {r : Label} (hl : (s.seqPc, r) ∈ [(Label.h10, Label.h11a), (.a1, .a2)]) :
    Gives State.Inv (exec (.requestFrame r) s) :=
  live (next (h.quietly rfl rfl rfl (Label.quiet_jump (by simp_all; tauto))))

theorem requestConfig_inv (h : s.Inv) (hl : s.seqPc = .n1) : Gives State.Inv (exec .requestConfig s) :=
  live (next (h.quietly rfl rfl rfl (Label.quiet_jump (by simp [hl]))))

theorem sigDeassert_inv (h : s.Inv) (hl : s.seqPc = .f4) : Gives State.Inv (exec .sigDeassert s) := by
  have hr := Label.caller_of_phaseOf (hl ▸ h.not_stray)
  exact live (next (h.quietly rfl rfl rfl (hl ▸ Label.quiet_return hr)))

theorem latchCfg_inv (h : s.Inv) (hl : s.seqPc = .n3) : Gives State.Inv (exec .latchCfg s) := by
  refine live (withGroup (fun g0 g1 g2 g3 => next ?_) h.faulted)
  obtain ⟨hdown, hlen, hsam, _⟩ := (phaseSound_handshake (by simp [hl, phaseOf])).1 h.phase
  refine h.move rfl (Label.follows_succ (by simp [hl]) (by simp [hl]) h.rearmLabels)
    ((phaseSound_handshake ?_).2 ⟨hdown, hlen, hsam, ?_⟩) ?_ ?_
  all_goals simp [h.delivery, hl, Label.succ, phaseOf, deliveryAt, latchesFilled]

/-- N5 is reached with a float descriptor of one sample or more. -/
theorem checkCfg_inv (h : s.Inv) (hl : s.seqPc = .n4) : Gives State.Inv (exec .checkCfg s) := by
  refine live (ite (fun _ => raise (h.faulted _)) fun htype => ite (fun _ => raise (h.faulted _)) fun hcount => next ?_)
  obtain ⟨hdown, hlen, hsam, _⟩ := (phaseSound_handshake (by simp [hl, phaseOf])).1 h.phase
  have follows : Label.Follows s.params.hsAckRearm s.dataAvail s.seqPc s.ret .n5 s.ret := by
    simpa [hl, Label.succ] using Label.follows_succ (r := s.ret) (by simp [hl]) (by simp [hl]) h.rearmLabels
  refine h.move rfl follows
    ((phaseSound_handshake rfl).2 ⟨hdown, hlen, hsam, fun _ => ⟨not_not.1 htype, hcount⟩⟩) ?_ nofun
  simp [h.delivery, hl, deliveryAt]

/-- The new buffer holds at least what the handshake's did, so `pos` stays inside it. -/
theorem realloc_inv (h : s.Inv) (hl : s.seqPc = .n6) : Gives State.Inv (exec .realloc s) := by
  refine live (ite (fun _ => raise (h.faulted _)) fun _ => next ?_)
  obtain ⟨hdown, hlen, hsam, hneg⟩ := (phaseSound_handshake (by simp [hl, phaseOf])).1 h.phase
  obtain ⟨htype, hcount⟩ := hneg (.inr hl)
  have hnew : (newLen s.sampleCount).toNat = 4 * s.sampleCount.toNat := newLen_toNat _
  have hpos : 0 < s.sampleCount.toNat := Nat.pos_of_ne_zero fun e => hcount (BitVec.eq_of_toNat_eq e)
  have hmax := s.sampleCount.isLt
  have hinside := h.posInside
  refine { h with
    bufWf := rfl, bufInside := nofun, lenLow := ?_, lenHigh := ?_, lenWords := ?_, posInside := ?_
    delivery := ?_, rearmLabels := ?_, phase := (phaseSound_resized ?_).2 ⟨hdown, ⟨htype, hcount, hnew⟩, hsam⟩
    leftInit := fun _ => h.leftInit ?_, filled := ?_, latches := ?_ }
  case refine_1 | refine_2 | refine_3 | refine_4 =>
    simp only [advance_bufLen, advance_pos, allocBuf_bufLen, allocBuf_pos, hnew]
    omega
  all_goals simp [h.delivery, hl, Label.succ, phaseOf, deliveryAt, pastWait, latchesFilled]

theorem allocSam_inv (h : s.Inv) (hl : s.seqPc = .n8) : Gives State.Inv (exec .allocSam s) := by
  obtain ⟨hdown, hneg, _⟩ := (phaseSound_resized (by simp [hl, phaseOf])).1 h.phase
  refine live (next { h with
    samWf := rfl, samInside := nofun
    delivery := ?_, rearmLabels := ?_, phase := (phaseSound_sized ?_).2 ⟨hdown, hneg, rfl⟩
    leftInit := fun _ => h.leftInit ?_, filled := ?_, latches := ?_ })
  all_goals simp [h.delivery, hl, Label.succ, phaseOf, deliveryAt, pastWait, latchesFilled]

/-- The session comes up past the wait for the configuration frame, so out of Init. -/
theorem beginComplete_inv (h : s.Inv) (hl : s.seqPc = .n9) : Gives State.Inv (exec (.beginCmd .complete) s) := by
  obtain ⟨_, hneg, hsam⟩ := (phaseSound_sized (by simp [hl, phaseOf])).1 h.phase
  have hinit : s.pstate ≠ .init := h.leftInit (by simp [hl, pastWait])
  refine live (next (h.move rfl ⟨nofun, nofun, nofun, fun _ => ⟨nofun, nofun, nofun⟩⟩
    ((phaseSound_rest rfl).2 ⟨hsam, fun _ => ⟨hneg, hinit⟩, nofun⟩) ?_ nofun))
  simp [h.delivery, hl, deliveryAt]

theorem readClear_inv (h : s.Inv) (hl : s.seqPc = .a2) : Gives State.Inv (exec (.readCmd .clearIdx) s) := by
  obtain ⟨hup, hneg, hsam, _⟩ := (phaseSound_reading (by simp [hl, phaseOf])).1 h.phase
  refine live (next (h.move rfl ⟨nofun, fun _ => .inr ?_, nofun, fun _ => ⟨nofun, nofun, nofun⟩⟩
    ((phaseSound_reading rfl).2 ⟨hup, hneg, hsam, fun _ => Nat.zero_le _, nofun⟩) ?_ nofun))
  all_goals simp [h.delivery, hl, deliveryAt, pastWait]

theorem readTest_inv (h : s.Inv) (hl : s.seqPc = .a3) : Gives State.Inv (exec (.readCmd .loopTest) s) := by
  obtain ⟨hup, hneg, hsam, hidx, _⟩ := (phaseSound_reading (by simp [hl, phaseOf])).1 h.phase
  refine live (next ?_)
  split
  · exact h.quietly rfl rfl rfl (Label.quiet_jump (by simp [hl]))
  · rename_i hne
    have hlt : s.idx.toNat < s.sampleCount.toNat :=
      lt_of_le_of_ne (hidx hl) fun e => hne (BitVec.eq_of_toNat_eq e)
    refine h.move rfl ⟨nofun, fun _ => .inr ?_, nofun, fun _ => ⟨nofun, nofun, nofun⟩⟩
      ((phaseSound_reading rfl).2 ⟨hup, hneg, hsam, nofun, fun _ => hlt⟩) ?_ nofun
    all_goals simp [h.delivery, hl, deliveryAt, pastWait]

theorem storeSam_inv (h : s.Inv) (hl : s.seqPc = .a5) : Gives State.Inv (exec .storeSam s) := by
  refine live (withGroup (fun g0 g1 g2 g3 => ite (fun _ => raise (h.faulted _)) fun hin => next ?_) h.faulted)
  obtain ⟨hup, hneg, hsam, _, hdec⟩ := (phaseSound_reading (by simp [hl, phaseOf])).1 h.phase
  have hlt : s.idx.toNat < s.sampleCount.toNat := hdec (by simp [hl, decodesSample])
  have hidx : (s.idx + 1).toNat ≤ s.sampleCount.toNat := by
    have hmax := s.sampleCount.isLt
    rw [BitVec.toNat_add, show (1 : Byte).toNat = 1 from rfl]
    omega
  refine { h with
    samWf := samWrite_keeps_wf s _ _ h.samWf
    samInside := fun i w hr => ?_
    delivery := ?_, rearmLabels := fun _ => ⟨nofun, nofun, nofun⟩
    phase := (phaseSound_reading rfl).2 ⟨hup, hneg, hsam, fun _ => hidx, nofun⟩
    leftInit := fun _ => h.leftInit ?_, filled := nofun, latches := nofun }
  · by_cases hi : i = s.idx.toNat
    · rw [hi]
      exact not_le.1 hin
    · exact h.samInside i w (by simpa [Memory.read_write_other _ _ hi] using hr)
  all_goals simp [h.delivery, hl, deliveryAt, pastWait]

theorem readComplete_inv (h : s.Inv) (hl : s.seqPc = .a6) : Gives State.Inv (exec (.readCmd .complete) s) := by
  obtain ⟨hup, hneg, hsam, _⟩ := (phaseSound_reading (by simp [hl, phaseOf])).1 h.phase
  have hinit : s.pstate ≠ .init := h.leftInit (by simp [hl, pastWait])
  refine live (next (h.move rfl ⟨nofun, nofun, nofun, fun _ => ⟨nofun, nofun, nofun⟩⟩
    ((phaseSound_rest rfl).2 ⟨hsam, fun _ => ⟨hneg, hinit⟩, fun e => nomatch hup.symm.trans e⟩) ?_ nofun))
  simp [h.delivery, hl, hup, deliveryAt]

end Gives

end Sys2Proof.Machine
end

section
/-! PROOFS. What an exchange can do (R93, R120 to R147, R229), and that it keeps a sound state sound. -/
namespace Sys2Proof.Machine

/-- What is written stays written. -/
theorem Memory.isSome_read_write {α : Type} {m : List (Nat × α)} {a : Nat} (h : (Memory.read m a).isSome) (b : Nat)
    (v : α) : (Memory.read (Memory.write m b v) a).isSome := by
  rw [Memory.read_write]
  split
  · rfl
  · exact h

/-- A write right above written cells makes one more of them. -/
theorem Memory.isSome_read_write_below {α : Type} {m : List (Nat × α)} {n : Nat}
    (h : ∀ a, a < n → (Memory.read m a).isSome) (v : α) :
    ∀ a, a < n + 1 → (Memory.read (Memory.write m n v) a).isSome := by
  intro a ha
  obtain ha | rfl := Nat.lt_succ_iff_lt_or_eq.1 ha
  · exact Memory.isSome_read_write (h a ha) n v
  · rw [Memory.read_write_same]
    rfl

theorem next_inj {s t : State} (h : (.next s : Answer) = .next t) : s = t := by cases h; rfl

/-- In a collecting state a delivered byte is payload, whichever of the three it is (R142, R144, R146). -/
theorem exec_decode_collecting {s : State} {b : Byte} (hi : s.isrEn = true) (hp : s.pstate ≠ .awaitingHeader) :
    exec (decode s.isrEn s.pstate b) s = live s (collect b s) := by
  rw [hi]
  cases hp' : s.pstate with
  | awaitingHeader => exact absurd hp' hp
  | init | receivingConfig | receivingMessage => rfl

/-- An exchange is dropped; or beats alone, on a byte that is no frame header; or is a frame header; or stores its byte. -/
theorem exchange_next {s t : State} {b : Byte} (h : exec (decode s.isrEn s.pstate b) s = .next t) :
    (s.isrEn = false ∧ t = { s with draws := s.draws + 1, out := .tx (Config.freeTx s.draws) :: s.out }) ∨
      (s.isrEn = true ∧ s.pstate = .awaitingHeader ∧ t = bytePrefix s) ∨
      (s.isrEn = true ∧ s.pstate = .awaitingHeader ∧ b = 0x20 ∧
        t = { bytePrefix s with pstate := .receivingMessage }) ∨
      (s.isrEn = true ∧ s.pstate = .awaitingHeader ∧ b = 0x30 ∧
        t = { bytePrefix s with pstate := .receivingConfig }) ∨
      (s.isrEn = true ∧ s.pstate ≠ .awaitingHeader ∧ collect b s = .next t) := by
  by_cases hi : s.isrEn = true
  · refine .inr ?_
    by_cases hp : s.pstate = .awaitingHeader
    · simp only [hi, hp, decode, if_true] at h
      split at h
      · exact .inl ⟨hi, hp, (next_inj (live_next h).2).symm⟩
      split at h
      · exact .inr (.inl ⟨hi, hp, ‹_›, (next_inj (live_next h).2).symm⟩)
      split at h
      · exact .inr (.inr (.inl ⟨hi, hp, ‹_›, (next_inj (live_next h).2).symm⟩))
      · exact .inl ⟨hi, hp, (next_inj (live_next h).2).symm⟩
    · rw [exec_decode_collecting hi hp] at h
      exact .inr (.inr (.inr ⟨hi, hp, (live_next h).2⟩))
  · have hi : s.isrEn = false := Bool.eq_false_of_not_eq_true hi
    rw [hi] at h
    exact .inl ⟨hi, (next_inj (live_next h).2).symm⟩

namespace State.Inv

variable {s t : State}

/-- The heartbeat and the outputs are no part of soundness. -/
theorem beaten (h : s.Inv) : (bytePrefix s).Inv := { h with }

/-- A frame header starts to collect (R125, R126). -/
theorem collecting (h : s.Inv) {p : PState} (hp : p ≠ .init) (hw : p ≠ .awaitingHeader) :
    State.Inv { s with pstate := p } :=
  { h with
    headerAtZero := fun e => absurd e hw
    initNoFrame := fun e => absurd e hp
    phase := phaseSound_within h.phase rfl (fun _ => hp) ⟨rfl, id, id, id⟩
    leftInit := fun _ => hp }

/-- `pos` never wraps (R22, D24). -/
theorem pos_succ (h : s.Inv) : (s.pos + 1).toNat = s.pos.toNat + 1 := by
  have hlt := h.posInside
  have hle := h.lenHigh
  rw [BitVec.toNat_add, show (1 : BitVec 10).toNat = 1 from rfl]
  omega

/-- A byte stored at `pos` stays inside the buffer. -/
theorem stored_inside (h : s.Inv) (rx : Byte) :
    ∀ a b, Memory.read (Memory.write s.buf s.pos.toNat rx) a = some b → a < s.bufLen.toNat := by
  intro a b hr
  by_cases ha : a = s.pos.toNat
  · exact ha ▸ h.posInside
  · exact h.bufInside a b (by rwa [Memory.read_write_other _ _ ha] at hr)

/-- A payload byte (R141, R143): the position is inside the buffer, so no fault; in the handshake the byte that completes the
frame leaves all four cells written. -/
theorem collected (h : s.Inv) (hp : s.pstate ≠ .awaitingHeader) {rx : Byte} (ht : collect rx s = .next t) : t.Inv := by
  obtain ⟨hout, _⟩ | ⟨_, hlast, rfl⟩ | ⟨_, hmore, rfl⟩ := collect_next ht
  · exact absurd hout (not_le.2 h.posInside)
  · exact { h with
      bufWf := Memory.wf_write _ _ h.bufWf
      bufInside := h.stored_inside rx
      posInside := lt_of_lt_of_le (by decide : 0 < 4) h.lenLow
      headerAtZero := fun _ => rfl
      initNoFrame := nofun
      phase := phaseSound_within h.phase rfl (fun _ => nofun) ⟨rfl, id, id, id⟩
      leftInit := fun _ => nofun
      filled := fun hh => by
        obtain ⟨hbelow, _⟩ := h.filled hh
        obtain ⟨_, hlen, _⟩ := (phaseSound_handshake (by exact hh)).1 h.phase
        rw [h.pos_succ, hlen] at hlast
        exact ⟨nofun, fun _ a ha => Memory.isSome_read_write_below hbelow rx a (hlast ▸ ha)⟩ }
  · exact { h with
      bufWf := Memory.wf_write _ _ h.bufWf
      bufInside := h.stored_inside rx
      posInside := lt_of_le_of_ne (h.pos_succ ▸ h.posInside) hmore
      headerAtZero := fun e => absurd e hp
      filled := fun hh => by
        obtain ⟨hbelow, hwhole⟩ := h.filled hh
        exact ⟨fun a ha => Memory.isSome_read_write_below hbelow rx a (h.pos_succ ▸ ha),
          fun hr a ha => Memory.isSome_read_write (hwhole hr a ha) _ rx⟩ }

end State.Inv

namespace Gives

variable {s : State}

theorem exchange_inv (h : s.Inv) (b : Byte) : Gives State.Inv (exec (decode s.isrEn s.pstate b) s) := by
  intro t ht
  obtain ⟨_, rfl⟩ | ⟨_, _, rfl⟩ | ⟨_, _, _, rfl⟩ | ⟨_, _, _, rfl⟩ | ⟨_, hp, ht⟩ := exchange_next ht
  · exact h.withScript _ _ _
  · exact h.beaten
  · exact h.beaten.collecting nofun nofun
  · exact h.beaten.collecting nofun nofun
  · exact h.collected hp ht

end Gives

end Sys2Proof.Machine
end

section
/-! PROOFS. Commands and turns of the sequencer keep a sound state sound, and so does every step (R36). -/
namespace Sys2Proof.Machine

namespace Gives

variable {s : State}

/-- A session that is up is admitted to READ out of Init (R36). -/
theorem readCommand_inv (h : s.Inv) : Gives State.Inv (exec (.readCmd .command) s) := by
  refine live (whenIdle (fun hl => ite (fun hup => next ?_) fun _ => next (h.emitted _)) (h.emitted _))
  obtain ⟨hsam, hneg, _⟩ := (phaseSound_rest (by simp [hl, phaseOf])).1 h.phase
  obtain ⟨hneg, hinit⟩ := hneg hup
  exact { h with
    delivery := by simp [h.delivery, hl, hup, deliveryAt]
    rearmLabels := fun _ => ⟨nofun, nofun, nofun⟩
    phase := (phaseSound_reading rfl).2 ⟨hup, hneg, hsam, nofun, nofun⟩
    leftInit := fun _ => hinit
    filled := nofun
    latches := nofun }

theorem command_inv (h : s.Inv) (c : Command) : Gives State.Inv (exec (commandInstr c) s) := by
  cases c with
  | begin_ =>
    refine live (whenIdle (fun hl => next (h.quietly rfl rfl rfl (Label.quiet_jump ?_))) (h.emitted _))
    simp [hl]
  | read => exact readCommand_inv h
  | length => exact live (whenIdle (fun _ => next (h.emitted _)) (h.emitted _))
  | get i =>
    refine live (whenIdle (fun _ => ite (fun _ => raise (h.faulted _)) fun _ => ?_) (h.emitted _))
    split
    · exact next (h.emitted _)
    · exact raise (h.faulted _)

/-- A turn of the sequencer, row by row of R181. -/
theorem microInstr_inv (h : s.Inv) : ∀ i ∈ microInstr s, Gives State.Inv (exec i s) := by
  cases hl : s.seqPc with
  | idle => simp [microInstr, hl]
  | b1 | h1 | h9a | n5 => simpa [microInstr, hl] using suspend_inv h (by simp [hl])
  | b2 => simpa [microInstr, hl] using sessionInit_inv h hl
  | b3 | h3 | h9c | n7 => simpa [microInstr, hl] using resume_inv h (by simp [hl])
  | h2 | h9b => simpa [microInstr, hl] using rearm_inv h (by simp [hl])
  | h4 | f2 => simpa [microInstr, hl] using waitDa_inv h (by simp [hl])
  | h5 | f3 => simpa [microInstr, hl] using clearDa_inv h (by simp [hl])
  | h6a | h11a | n2a | a4a => simpa [microInstr, hl] using loadGrp_inv h _ (k := 0) (by simp [hl, loadRows])
  | h6b | h11b | n2b | a4b => simpa [microInstr, hl] using loadGrp_inv h _ (k := 1) (by simp [hl, loadRows])
  | h6c | h11c | n2c | a4c => simpa [microInstr, hl] using loadGrp_inv h _ (k := 2) (by simp [hl, loadRows])
  | h6d | h11d | n2d | a4d => simpa [microInstr, hl] using loadGrp_inv h _ (k := 3) (by simp [hl, loadRows])
  | h7 => simpa [microInstr, hl] using checkSentinel_inv h hl
  | h8 | f1 => simpa [microInstr, hl] using sigAssert_inv h (by simp [hl])
  | h10 | a1 => simpa [microInstr, hl] using requestFrame_inv h (by simp [hl])
  | h12 => simpa [microInstr, hl] using checkAck_inv h hl
  | n1 => simpa [microInstr, hl] using requestConfig_inv h hl
  | n3 => simpa [microInstr, hl] using latchCfg_inv h hl
  | n4 => simpa [microInstr, hl] using checkCfg_inv h hl
  | n6 => simpa [microInstr, hl] using realloc_inv h hl
  | n8 => simpa [microInstr, hl] using allocSam_inv h hl
  | n9 => simpa [microInstr, hl] using beginComplete_inv h hl
  | f4 => simpa [microInstr, hl] using sigDeassert_inv h hl
  | a2 => simpa [microInstr, hl] using readClear_inv h hl
  | a3 => simpa [microInstr, hl] using readTest_inv h hl
  | a5 => simpa [microInstr, hl] using storeSam_inv h hl
  | a6 => simpa [microInstr, hl] using readComplete_inv h hl

/-- Every move keeps a sound state sound: an exchange, a command, a turn of the sequencer, the reset event. -/
theorem stepMove_inv (h : s.Inv) (m : Move) : Gives State.Inv (stepMove m s) := by
  intro t ht
  obtain ⟨_, rfl⟩ | ⟨_, _, i, hi, hexec⟩ | ⟨_, _, _, rfl⟩ := stepMove_next ht
  · exact resetCells_inv s
  · cases m with
    | rx b =>
      cases hi
      exact exchange_inv h b t hexec
    | cmd c =>
      cases hi
      exact command_inv h c t hexec
    | seq => exact microInstr_inv h i hi t hexec
    | reset => cases hi
  · exact h

end Gives

/-- Settles O3: taking the move changes nothing that soundness speaks of, and making it keeps it. -/
theorem everyStepKeepsTheInvariant : Obligations.EveryStepKeepsTheInvariant := by
  intro s t h ht
  have htaken : (takeMove s).2.Inv := takeMove_cells s ▸ h.withScript _ _ s.out
  exact Gives.stepMove_inv htaken _ t ht

end Sys2Proof.Machine
end

section
/-! PROOFS. What only exchanges and the reset event do (R25, R36, R40, R123, R143), and what each move runs (R42, R180,
R260). -/
namespace Sys2Proof.Machine

/-- What commands and micro-ops leave to the exchanges: the heartbeat, the bytes sent, and setting the frame flag. -/
structure LeavesLink (s t : State) : Prop where
  hb : t.hb = s.hb := by rfl
  sent : sentBytes t.out = sentBytes s.out := by rfl
  frame : t.dataAvail = true → s.dataAvail = true := by exact id

namespace Gives

variable {s : State}

theorem beginCmd_leavesLink (part : BeginPart) : Gives (LeavesLink s) (exec (.beginCmd part) s) := by
  cases part with
  | command => exact live (whenIdle (fun _ => next {}) {})
  | complete => exact live (next {})

theorem readCmd_leavesLink (part : ReadPart) : Gives (LeavesLink s) (exec (.readCmd part) s) := by
  cases part with
  | command => exact live (whenIdle (fun _ => ite (fun _ => next {}) fun _ => next {}) {})
  | clearIdx | loopTest | complete => exact live (next {})

theorem getCmd_leavesLink (i : Int) : Gives (LeavesLink s) (exec (.getCmd i) s) := by
  refine live (whenIdle (fun _ => ite (fun _ => raise {}) fun _ => ?_) {})
  split
  · exact next {}
  · exact raise {}

theorem waitDa_leavesLink : Gives (LeavesLink s) (exec .waitDa s) := by
  refine live (next ?_)
  split <;> exact {}

theorem loadGrp_leavesLink (a : BitVec 10) (k : Fin 4) : Gives (LeavesLink s) (exec (.loadGrp a k) s) := by
  refine live ?_
  split
  · exact next {}
  · exact raise {}

/-- An operation without an encoding is no exchange (R105). -/
theorem leavesLink {i : Instr} (hi : encode i = none) : Gives (LeavesLink s) (exec i s) := by
  cases i with
  | hbNop | msgHdr | cfgHdr | ign | collectInit | collectCfg | collectMsg | dropped => cases hi
  | beginCmd part => exact beginCmd_leavesLink part
  | readCmd part => exact readCmd_leavesLink part
  | lengthCmd => exact live (whenIdle (fun _ => next {}) {})
  | getCmd i => exact getCmd_leavesLink i
  | waitDa => exact waitDa_leavesLink
  | loadGrp a k => exact loadGrp_leavesLink a k
  | sessionInit | rearm | clearDa => exact live (next { frame := nofun })
  | suspend | resume | sigAssert | sigDeassert | allocSam | connect | requestFrame | requestConfig =>
    exact live (next {})
  | checkSentinel | checkAck | latchCfg => exact live (withGroup (fun _ _ _ _ => next {}) fun _ => {})
  | checkCfg => exact live (ite (fun _ => raise {}) fun _ => ite (fun _ => raise {}) fun _ => next {})
  | realloc => exact live (ite (fun _ => raise {}) fun _ => next {})
  | storeSam => exact live (withGroup (fun _ _ _ _ => ite (fun _ => raise {}) fun _ => next {}) fun _ => {})

end Gives

/-- Only an exchange selects an operation with an encoding (R105). -/
theorem encode_of_fetch {m : Move} {s : State} {i : Instr} (hm : ∀ b, m ≠ .rx b) (hi : fetch m s = some i) :
    encode i = none := by
  cases m with
  | rx b => exact absurd rfl (hm b)
  | cmd c =>
    cases hi
    cases c <;> rfl
  | seq =>
    simp only [fetch, microInstr] at hi
    split at hi <;> cases hi <;> rfl
  | reset => cases hi

/-- A move that is no exchange is the reset event or leaves the link alone. -/
theorem stepMove_leavesLink {m : Move} {s t : State} (hm : ∀ b, m ≠ .rx b) (h : stepMove m s = .next t) :
    (m = .reset ∧ t = resetCells s) ∨ (m ≠ .reset ∧ LeavesLink s t) := by
  obtain hreset | ⟨hne, _, i, hi, hexec⟩ | ⟨rfl, _, _, rfl⟩ := stepMove_next h
  · exact .inl hreset
  · exact .inr ⟨hne, Gives.leavesLink (encode_of_fetch hm hi) t hexec⟩
  · exact .inr ⟨nofun, {}⟩

theorem stepMove_rx {s t : State} {b : Byte} (h : stepMove (.rx b) s = .next t) :
    exec (decode s.isrEn s.pstate b) s = .next t := by
  obtain ⟨hm, _⟩ | ⟨_, _, i, hi, hexec⟩ | ⟨hm, _⟩ := stepMove_next h
  · cases hm
  · cases hi
    exact hexec
  · cases hm

/-- Settles O19: by what a move that is no exchange can be. -/
theorem onlyExchangesAndResetWriteTheHeartbeat : Obligations.OnlyExchangesAndResetWriteTheHeartbeat := by
  intro s t m rest hm hscript ht
  rw [step_cons hscript] at ht
  obtain ⟨rfl, rfl⟩ | ⟨hne, hlink⟩ := stepMove_leavesLink hm ht
  · exact ⟨rfl, rfl⟩
  · rw [if_neg hne]
    exact ⟨hlink.hb, hlink.sent⟩

/-- Settles O20: of what an exchange can do, only the two frame headers take `pstate` out of AwaitingHeader. -/
theorem headerStateIsLeftOnlyByAFrameHeader : Obligations.HeaderStateIsLeftOnlyByAFrameHeader := by
  intro s t b rest hp hscript ht hleft
  rw [step_cons hscript] at ht
  obtain ⟨_, rfl⟩ | ⟨_, _, rfl⟩ | ⟨hi, _, hb, rfl⟩ | ⟨hi, _, hb, rfl⟩ | ⟨_, hcollecting, _⟩ :=
    exchange_next (stepMove_rx ht)
  · exact absurd hp hleft
  · exact absurd hp hleft
  · exact ⟨hi, .inl ⟨hb, rfl⟩⟩
  · exact ⟨hi, .inr ⟨hb, rfl⟩⟩
  · exact absurd hp hcollecting

/-- A payload byte that sets the frame flag completes the frame (R143). -/
theorem collect_sets_frame {s t : State} {b : Byte} (h : s.Inv) (ht : collect b s = .next t)
    (hclear : s.dataAvail = false) (hset : t.dataAvail = true) :
    s.pos.toNat + 1 = s.bufLen.toNat ∧ t.pos = 0 ∧ t.pstate = .awaitingHeader := by
  obtain ⟨_, rfl⟩ | ⟨_, hlast, rfl⟩ | ⟨_, _, rfl⟩ := collect_next ht
  · exact Bool.noConfusion (hclear.symm.trans hset)
  · exact ⟨h.pos_succ ▸ hlast, rfl, rfl⟩
  · exact Bool.noConfusion (hclear.symm.trans hset)

/-- Settles O21: the reset event clears the flag and other moves leave it or clear it, but for a payload byte. -/
theorem frameFlagIsSetOnlyByAWrap : Obligations.FrameFlagIsSetOnlyByAWrap := by
  intro s t m rest h hscript ht hclear hset
  rw [step_cons hscript] at ht
  by_cases hm : ∀ b, m ≠ .rx b
  · obtain ⟨_, rfl⟩ | ⟨_, hlink⟩ := stepMove_leavesLink hm ht
    · cases hset
    · exact Bool.noConfusion (hclear.symm.trans (hlink.frame hset))
  · simp only [not_forall, not_not] at hm
    obtain ⟨b, rfl⟩ := hm
    obtain ⟨_, rfl⟩ | ⟨_, _, rfl⟩ | ⟨_, _, _, rfl⟩ | ⟨_, _, _, rfl⟩ | ⟨hi, hp, hcollect⟩ :=
      exchange_next (stepMove_rx ht)
    case inr.inr.inr.inr =>
      have hwrap := collect_sets_frame (h.withScript rest s.draws s.out) hcollect hclear hset
      exact ⟨⟨b, rfl⟩, hi, hp, hwrap⟩
    all_goals exact Bool.noConfusion (hclear.symm.trans hset)

theorem resetCells_atReset (s : State) : (resetCells s).atReset :=
  ⟨rfl, rfl, rfl, fun _ => ite_self _, rfl, rfl, rfl, rfl, rfl, rfl, fun _ => ite_self _, rfl, rfl, rfl, rfl,
    fun k => by fin_cases k <;> rfl, rfl, rfl, rfl⟩

/-- Settles O1: the reset event is `resetCells`, whose cells stand at the table of R45. -/
theorem resetEventRestoresEveryCell : Obligations.ResetEventRestoresEveryCell := by
  intro s rest hscript
  exact ⟨_, (step_cons hscript).trans (stepMove_reset _), resetCells_atReset _, rfl, rfl, rfl⟩

/-- Settles O2: the reset state is what the reset event leaves of itself. -/
theorem resetStateIsSound : Obligations.ResetStateIsSound :=
  ⟨resetCells_inv State.reset, resetCells_atReset State.reset, rfl⟩

/-- Settles O5: by what a move selects. -/
theorem stepRunsTheCommandOrMicroOp : Obligations.StepRunsTheCommandOrMicroOp := by
  refine ⟨fun s c rest hf hscript => ?_, fun s i rest hf hscript hi => ?_, fun s rest hf hscript hl => ?_⟩
  · exact (step_cons hscript).trans (stepMove_instr nofun hf rfl)
  · exact (step_cons hscript).trans (stepMove_instr nofun hf hi)
  · refine (step_cons hscript).trans (stepMove_none nofun hf ?_)
    simp only [fetch, microInstr, hl]

end Sys2Proof.Machine
end

section
/-! PROOFS. What stops the machine at the memories (R63, R65, R66), and the sample that is stored (R62, R195). -/
namespace Sys2Proof.Machine

section
variable {s : State}

/-- The guard of a payload step, tested before anything is sent (R141, log 13). -/
theorem collect_outside (rx : Byte) (h : s.bufLen.toNat ≤ s.pos.toNat) :
    collect rx s = raise (.posRange s.pos s.bufLen) s := if_pos h

theorem exec_loadGrp_unwritten {a : BitVec 10} {k : Fin 4} (hf : s.fault = none)
    (hb : bufRead s (a.toNat + k.val) = none) :
    exec (.loadGrp a k) s = raise (.uninit .buf (a.toNat + k.val)) s := by
  simp only [exec, execLoadGrp, live_none hf, hb]

/-- The lowest unwritten latch is the one that is named (log 31). -/
theorem withGroup_unwritten {k : Fin 4} (hk : s.grp.get k = none) (below : ∀ j, j < k → (s.grp.get j).isSome)
    (cont : Byte → Byte → Byte → Byte → Answer) : withGroup s cont = raise (.uninit .grp k.val) s := by
  have written : ∀ j, j < k → ∃ b, s.grp.get j = some b := fun j hj => Option.isSome_iff_exists.1 (below j hj)
  match k with
  | 0 =>
    have h0 : s.grp.b0 = none := hk
    simp [withGroup, h0]
  | 1 =>
    obtain ⟨g0, h0⟩ : ∃ b, s.grp.b0 = some b := written 0 (by decide)
    have h1 : s.grp.b1 = none := hk
    simp [withGroup, h0, h1]
  | 2 =>
    obtain ⟨g0, h0⟩ : ∃ b, s.grp.b0 = some b := written 0 (by decide)
    obtain ⟨g1, h1⟩ : ∃ b, s.grp.b1 = some b := written 1 (by decide)
    have h2 : s.grp.b2 = none := hk
    simp [withGroup, h0, h1, h2]
  | 3 =>
    obtain ⟨g0, h0⟩ : ∃ b, s.grp.b0 = some b := written 0 (by decide)
    obtain ⟨g1, h1⟩ : ∃ b, s.grp.b1 = some b := written 1 (by decide)
    obtain ⟨g2, h2⟩ : ∃ b, s.grp.b2 = some b := written 2 (by decide)
    have h3 : s.grp.b3 = none := hk
    simp [withGroup, h0, h1, h2, h3]

/-- The four operations that read the latches do it first of all. -/
theorem exec_latchReader {i : Instr} (hf : s.fault = none) (hi : i ∈ [.checkSentinel, .checkAck, .latchCfg, .storeSam]) :
    ∃ cont, exec i s = withGroup s cont := by
  simp only [List.mem_cons, List.not_mem_nil, or_false] at hi
  obtain rfl | rfl | rfl | rfl := hi <;> exact ⟨_, live_none hf _⟩

/-- `ALLOC_FAIL` is true of the lengths that are listed (log 8). -/
theorem allocFails_newLen_false {p : Params} {n : Byte} (h : ∀ k ∈ p.allocFail, k.toNat ≠ 4 * n.toNat) :
    allocFails p (newLen n) = false := by
  have hnot : newLen n ∉ p.allocFail := fun hmem => h _ hmem (newLen_toNat n)
  simpa [allocFails] using hnot

theorem exec_realloc (hf : s.fault = none) (h : ∀ k ∈ s.params.allocFail, k.toNat ≠ 4 * s.sampleCount.toNat) :
    exec .realloc s = .next (advance (allocBuf s (newLen s.sampleCount))) := by
  simp [exec, execRealloc, live_none hf, allocFails_newLen_false h]

theorem bufRead_of_nil (h : s.buf = []) (a : Nat) : bufRead s a = none := by simp [bufRead, h]

/-- The bits of the first operand stand above those of the second. -/
theorem toNat_append_byte {n : Nat} (x : BitVec n) (y : Byte) : (x ++ y).toNat = 256 * x.toNat + y.toNat := by
  rw [BitVec.toNat_append, ← Nat.shiftLeft_add_eq_or_of_lt y.isLt, Nat.shiftLeft_eq, Nat.mul_comm]

theorem word_little_toNat (b0 b1 b2 b3 : Byte) : (word .little b0 b1 b2 b3).toNat =
    b0.toNat + 256 * b1.toNat + 65536 * b2.toNat + 16777216 * b3.toNat := by
  simp only [word, toNat_append_byte]
  omega

theorem word_big_toNat (b0 b1 b2 b3 : Byte) : (word .big b0 b1 b2 b3).toNat =
    b3.toNat + 256 * b2.toNat + 65536 * b1.toNat + 16777216 * b0.toNat := by
  simp only [word, toNat_append_byte]
  omega

/-- A read of the sample array after a write inside it. -/
theorem samRead_samWrite {i : Nat} (hi : i < s.samLen.toNat) (w : Sample) (j : Nat) :
    samRead (samWrite s i w) j = if j = i then some w else samRead s j := by
  simp only [samRead, samWrite_samLen, samWrite_samples, Memory.read_write]
  by_cases hj : j = i
  · simp [hj, hi]
  · simp [hj]

theorem exec_storeSam {g0 g1 g2 g3 : Byte} (hf : s.fault = none) (hg : s.grp = ⟨some g0, some g1, some g2, some g3⟩)
    (hi : s.idx.toNat < s.samLen.toNat) :
    exec .storeSam s = .next (goto .a3
      { samWrite s s.idx.toNat (word s.params.endian g0 g1 g2 g3) with idx := s.idx + 1 }) := by
  simp only [exec, execStoreSam, live_none hf, withGroup_some hg, if_neg (not_le.2 hi)]

end

/-- Settles O15: each collecting operation is the payload step, whose guard fails. -/
theorem payloadOutsideTheBufferFaults : Obligations.PayloadOutsideTheBufferFaults := by
  intro s rx i hf hout hi
  have hcollect : exec i s = live s (collect rx s) := by
    simp only [List.mem_cons, List.not_mem_nil, or_false] at hi
    obtain rfl | rfl | rfl := hi <;> rfl
  rw [hcollect, live_none hf, collect_outside rx hout, raise]

/-- Settles O36: the load and the read of the latches raise at the place they find unwritten. -/
theorem unwrittenReadsFault : Obligations.UnwrittenReadsFault := by
  refine ⟨fun s a k hf hb => ?_, fun s i k hf hk below hi => ?_⟩
  · rw [exec_loadGrp_unwritten hf hb, raise]
  · obtain ⟨cont, hread⟩ := exec_latchReader hf hi
    rw [hread, withGroup_unwritten hk below, raise]

/-- Settles O49: the allocation succeeds, and leaves no written cell. -/
theorem reallocEmptiesAndResizes : Obligations.ReallocEmptiesAndResizes :=
  fun _ hf h => ⟨_, exec_realloc hf h, newLen_toNat _, bufRead_of_nil rfl, rfl⟩

/-- Settles O52: the word stored is `word` of the latches, in either byte order. -/
theorem sampleIsStored : Obligations.SampleIsStored := by
  intro s g0 g1 g2 g3 hf hg hi
  refine ⟨_, word s.params.endian g0 g1 g2 g3, exec_storeSam hf hg hi, fun he => ?_, fun he => ?_,
    samRead_samWrite hi _, rfl⟩
  · rw [he, word_little_toNat]
  · rw [he, word_big_toNat]

end Sys2Proof.Machine
end

section
/-! PROOFS. Turns of the sequencer in a row, and the decode loop of READ (R67, R181, R194, R195). -/
namespace Sys2Proof.Machine

/-- One turn of the sequencer: the micro-op at its label, on the state without the move. -/
theorem step_turn {s t : State} {i : Instr} {rest : List Move} (hi : microInstr s = some i) (hf : s.fault = none)
    (hscript : s.script = .seq :: rest) (hexec : exec i { s with script := rest } = .next t) : step s = .next t :=
  (stepRunsTheCommandOrMicroOp.2.1 s i rest hf hscript hi).trans hexec

theorem exec_loadGrp_written {s : State} {a : BitVec 10} {k : Fin 4} {b : Byte} (hf : s.fault = none)
    (hb : bufRead s (a.toNat + k.val) = some b) :
    exec (.loadGrp a k) s = .next (advance { s with grp := s.grp.put k b }) := by
  simp only [exec, execLoadGrp, live_none hf, hb]

/-- `s` with the cells that the turns of a decode write, and the moves that are left: every state on the way is one of
these, over the same `s`. -/
def State.turned (s : State) (l : Label) (g : Group) (i : Byte) (m : List (Nat × Sample)) (rest : List Move) : State :=
  { s with seqPc := l, grp := g, idx := i, samples := m, script := rest }

/-- The four bytes from address `a` of the buffer (R67). -/
def GroupAt (s : State) (a : Nat) (b0 b1 b2 b3 : Byte) : Prop :=
  bufRead s a = some b0 ∧ bufRead s (a + 1) = some b1 ∧ bufRead s (a + 2) = some b2 ∧ bufRead s (a + 3) = some b3

/-- A group inside the written part of the buffer has its four bytes. -/
theorem exists_groupAt {s : State} {n a : Nat} (hbuf : ∀ a, a < n → (bufRead s a).isSome) (ha : a + 3 < n) :
    ∃ b0 b1 b2 b3, GroupAt s a b0 b1 b2 b3 := by
  have byteAt : ∀ k, k < 4 → ∃ b, bufRead s (a + k) = some b :=
    fun k hk => Option.isSome_iff_exists.1 (hbuf _ (by omega))
  obtain ⟨b0, h0⟩ := byteAt 0 (by decide)
  obtain ⟨b1, h1⟩ := byteAt 1 (by decide)
  obtain ⟨b2, h2⟩ := byteAt 2 (by decide)
  obtain ⟨b3, h3⟩ := byteAt 3 (by decide)
  exact ⟨b0, b1, b2, b3, h0, h1, h2, h3⟩

section
variable {s : State} {l : Label} {g : Group} {i : Byte} {m : List (Nat × Sample)} {rest : List Move}

theorem step_load {a : BitVec 10} {k : Fin 4} {b : Byte}
    (hi : microInstr (s.turned l g i m (.seq :: rest)) = some (.loadGrp a k)) (hf : s.fault = none)
    (hb : bufRead s (a.toNat + k.val) = some b) :
    step (s.turned l g i m (.seq :: rest)) =
      .next (s.turned (Label.succ s.params.hsAckRearm l) (g.put k b) i m rest) :=
  step_turn hi hf rfl (exec_loadGrp_written hf hb)

/-- The load of a latch goes on to the load of the next, from the same base (R181). -/
theorem microInstr_succ_load {a : BitVec 10} {k : Fin 4} (hi : microInstr (s.turned l g i m rest) = some (.loadGrp a k))
    (hk : k ≠ 3) (hsAckRearm : Bool) (g' : Group) (rest' : List Move) :
    microInstr (s.turned (Label.succ hsAckRearm l) g' i m rest') = some (.loadGrp a (k + 1)) := by
  cases l with
  | h6a | h6b | h6c | h11a | h11b | h11c | n2a | n2b | n2c | a4a | a4b | a4c => cases hi; rfl
  | h6d | h11d | n2d | a4d => cases hi; exact absurd rfl hk
  | _ => cases hi

/-- Four turns from the load of latch 0 fill the latches from the four bytes at the base, in order. -/
theorem run_loads {a : BitVec 10} {b0 b1 b2 b3 : Byte} (hf : s.fault = none)
    (hi : microInstr (s.turned l g i m (List.replicate 4 .seq ++ rest)) = some (.loadGrp a 0))
    (hbytes : GroupAt s a.toNat b0 b1 b2 b3) :
    run 4 (s.turned l g i m (List.replicate 4 .seq ++ rest)) =
      .next (s.turned ((Label.succ s.params.hsAckRearm)^[4] l) ⟨some b0, some b1, some b2, some b3⟩ i m rest) := by
  obtain ⟨h0, h1, h2, h3⟩ := hbytes
  have hi1 : microInstr _ = some (.loadGrp a 1) := microInstr_succ_load hi (by decide) s.params.hsAckRearm
    (g.put 0 b0) (List.replicate 3 .seq ++ rest)
  have hi2 : microInstr _ = some (.loadGrp a 2) := microInstr_succ_load hi1 (by decide) s.params.hsAckRearm
    ((g.put 0 b0).put 1 b1) (List.replicate 2 .seq ++ rest)
  have hi3 : microInstr _ = some (.loadGrp a 3) := microInstr_succ_load hi2 (by decide) s.params.hsAckRearm
    (((g.put 0 b0).put 1 b1).put 2 b2) (List.replicate 1 .seq ++ rest)
  exact (run_succ (step_load hi hf h0) 3).trans <| (run_succ (step_load hi1 hf h1) 2).trans <|
    (run_succ (step_load hi2 hf h2) 1).trans <| run_succ (step_load hi3 hf h3) 0

theorem step_readClear (hf : s.fault = none) :
    step (s.turned .a2 g i m (.seq :: rest)) = .next (s.turned .a3 g 0 m rest) :=
  step_turn rfl hf rfl (live_none hf _)

theorem step_readTest (hf : s.fault = none) :
    step (s.turned .a3 g i m (.seq :: rest)) =
      .next (s.turned (if i = s.sampleCount then .a6 else .a4a) g i m rest) :=
  step_turn rfl hf rfl (live_none hf _)

theorem step_readComplete (hf : s.fault = none) :
    step (s.turned .a6 g i m (.seq :: rest)) = .next (emit (.done true) (s.turned .idle g i m rest)) :=
  step_turn rfl hf rfl (live_none hf _)

theorem step_storeSam {b0 b1 b2 b3 : Byte} (hf : s.fault = none) (hin : i.toNat < s.samLen.toNat) :
    step (s.turned .a5 ⟨some b0, some b1, some b2, some b3⟩ i m (.seq :: rest)) =
      .next (s.turned .a3 ⟨some b0, some b1, some b2, some b3⟩ (i + 1)
        (Memory.write m i.toNat (word s.params.endian b0 b1 b2 b3)) rest) :=
  step_turn rfl hf rfl
    (exec_storeSam (s := s.turned .a5 ⟨some b0, some b1, some b2, some b3⟩ i m rest) hf rfl hin)

/-- One pass of the decode loop: the test at A3, the four loads, the store. -/
theorem run_decodePass {b0 b1 b2 b3 : Byte} (hf : s.fault = none) (hne : i ≠ s.sampleCount)
    (hin : i.toNat < s.samLen.toNat) (hbytes : GroupAt s (4 * i.toNat) b0 b1 b2 b3) :
    run 6 (s.turned .a3 g i m (List.replicate 6 .seq ++ rest)) =
      .next (s.turned .a3 ⟨some b0, some b1, some b2, some b3⟩ (i + 1)
        (Memory.write m i.toNat (word s.params.endian b0 b1 b2 b3)) rest) := by
  have htest := step_readTest (g := g) (i := i) (m := m) (rest := List.replicate 5 .seq ++ rest) hf
  rw [if_neg hne] at htest
  rw [← groupBase_toNat] at hbytes
  have hloads := run_loads (g := g) (m := m) (rest := .seq :: rest) hf (l := .a4a) rfl hbytes
  exact (run_succ htest 5).trans <| (run_add hloads 1).trans <| run_succ (step_storeSam hf hin) 0

end

/-- Sample `i` of `m` is the word of its four bytes in the buffer of `s` (R62, R67). -/
def Decoded (s : State) (m : List (Nat × Sample)) (i : Nat) : Prop :=
  ∃ b0 b1 b2 b3, GroupAt s (4 * i) b0 b1 b2 b3 ∧ Memory.read m i = some (word s.params.endian b0 b1 b2 b3)

/-- The decode loop from A3 with `n` samples to go: `n` passes decode them and leave the samples below. -/
theorem run_decodeLoop {s : State} (hf : s.fault = none) (hsam : s.samLen = s.sampleCount)
    (hbuf : ∀ a, a < 4 * s.sampleCount.toNat → (bufRead s a).isSome) (rest : List Move) (n : Nat) (g : Group)
    (i : Byte) (m : List (Nat × Sample)) (hn : i.toNat + n = s.sampleCount.toNat) :
    ∃ g' m', run (6 * n) (s.turned .a3 g i m (List.replicate (6 * n) .seq ++ rest)) =
        .next (s.turned .a3 g' s.sampleCount m' rest) ∧
      (∀ j, j < i.toNat → Memory.read m' j = Memory.read m j) ∧
      ∀ j, i.toNat ≤ j → j < s.sampleCount.toNat → Decoded s m' j := by
  induction n generalizing g i m with
  | zero =>
    obtain rfl : i = s.sampleCount := BitVec.eq_of_toNat_eq hn
    exact ⟨g, m, rfl, fun _ _ => rfl, by omega⟩
  | succ n ih =>
    have hlt : i.toNat < s.sampleCount.toNat := by omega
    have hne : i ≠ s.sampleCount := fun e => hlt.ne (congrArg BitVec.toNat e)
    have hi : (i + 1).toNat = i.toNat + 1 := by
      have hmax := s.sampleCount.isLt
      rw [BitVec.toNat_add, show (1 : Byte).toNat = 1 from rfl]
      omega
    obtain ⟨b0, b1, b2, b3, hbytes⟩ := exists_groupAt (a := 4 * i.toNat) hbuf (by omega)
    have hpass := run_decodePass (g := g) (m := m) (rest := List.replicate (6 * n) .seq ++ rest) hf hne (hsam ▸ hlt)
      hbytes
    obtain ⟨g', m', hrun, hbelow, hdecoded⟩ := ih ⟨some b0, some b1, some b2, some b3⟩ (i + 1)
      (Memory.write m i.toNat (word s.params.endian b0 b1 b2 b3)) (by omega)
    refine ⟨g', m', ?_, fun j hj => ?_, fun j hlow hhigh => ?_⟩
    · rw [Nat.mul_succ, Nat.add_comm, List.replicate_add, List.append_assoc, run_add hpass, hrun]
    · rw [hbelow j (by omega), Memory.read_write_other _ _ hj.ne]
    · obtain rfl | hlow := hlow.eq_or_lt
      · exact ⟨b0, b1, b2, b3, hbytes, by rw [hbelow _ (by omega), Memory.read_write_same]⟩
      · exact hdecoded j (by omega) hhigh

/-- After the last sample the test at A3 leaves the loop, and `read` completes with true at A6. -/
theorem run_readEnd {s : State} (hf : s.fault = none) (g : Group) (m : List (Nat × Sample)) (rest : List Move) :
    run 2 (s.turned .a3 g s.sampleCount m (.seq :: .seq :: rest)) =
      .next (emit (.done true) (s.turned .idle g s.sampleCount m rest)) := by
  have htest := step_readTest (i := s.sampleCount) (g := g) (m := m) (rest := .seq :: rest) hf
  rw [if_pos rfl] at htest
  exact (run_succ htest 1).trans (run_succ (step_readComplete hf) 0)

/-- Settles O55: A2 clears the index, the loop decodes every sample, and A3 and A6 end it. -/
theorem readDecodesEverySample : Obligations.ReadDecodesEverySample := by
  intro s rest hinv hf hl hbuf hscript
  obtain ⟨_, ⟨_, _, hlen⟩, hsam, _⟩ := (phaseSound_reading (by simp [hl, phaseOf])).1 hinv.phase
  have hturns : s.script = .seq :: (List.replicate (6 * s.sampleCount.toNat) .seq ++ (.seq :: .seq :: rest)) := by
    rw [hscript, show 6 * s.sampleCount.toNat + 3 = 1 + (6 * s.sampleCount.toNat + 2) by omega]
    simp only [List.replicate_add, List.append_assoc]
    rfl
  have hstart : s = s.turned .a2 s.grp s.idx s.samples s.script := hl ▸ rfl
  obtain ⟨g, m, hloop, _, hdecoded⟩ := run_decodeLoop hf hsam (hlen ▸ hbuf) (.seq :: .seq :: rest)
    s.sampleCount.toNat s.grp 0 s.samples (Nat.zero_add _)
  refine ⟨emit (.done true) (s.turned .idle g s.sampleCount m rest), ?_, rfl, fun i hi => ?_⟩
  · rw [hstart, hturns]
    exact (run_succ (step_readClear hf) _).trans ((run_add hloop 2).trans (run_readEnd hf g m rest))
  · obtain ⟨b0, b1, b2, b3, ⟨h0, h1, h2, h3⟩, hword⟩ := hdecoded i (Nat.zero_le i) hi
    exact ⟨b0, b1, b2, b3, h0, h1, h2, h3, (if_pos (hsam ▸ hi)).trans hword⟩

end Sys2Proof.Machine
end

section
/-! PROOFS. The decoder and the encoder agree (R91 to R93, R105), and an exchange runs what its byte decodes to. -/
namespace Sys2Proof

/-- IGN is well-formed on the bytes that are no header value (R93). -/
theorem Instr.wf_ign_iff (b : Byte) : (Instr.ign b).wf = true ↔ b ≠ 0x10 ∧ b ≠ 0x20 ∧ b ≠ 0x30 := by
  simp [wf, Config.isHeader, and_assoc]

theorem decode_ign {b : Byte} (h : (Instr.ign b).wf = true) : decode true .awaitingHeader b = .ign b := by
  obtain ⟨hbeat, hmsg, hcfg⟩ := (Instr.wf_ign_iff b).1 h
  exact (if_neg hbeat).trans ((if_neg hmsg).trans (if_neg hcfg))

/-- Settles O56: the mode and the byte are those of the operation's row of R92; only IGN shares its mode with other rows,
and being well-formed keeps it off their bytes. -/
theorem decodeOfEncodeIsTheInstruction : Obligations.DecodeOfEncodeIsTheInstruction := by
  intro i isrEn p b hwf hmode hbyte
  cases i with
  | hbNop | msgHdr | cfgHdr | collectInit | collectCfg | collectMsg =>
    simp only [Instr.selectedIn, Bool.and_eq_true, beq_iff_eq] at hmode
    obtain ⟨rfl, rfl⟩ := hmode
    cases hbyte
    rfl
  | ign rx =>
    simp only [Instr.selectedIn, Bool.and_eq_true, beq_iff_eq] at hmode
    obtain ⟨rfl, rfl⟩ := hmode
    cases hbyte
    exact decode_ign hwf
  | dropped rx =>
    simp only [Instr.selectedIn, Bool.not_eq_true'] at hmode
    obtain rfl := hmode
    cases hbyte
    rfl
  | _ => cases hbyte

/-- Settles O57: row by row of R92. -/
theorem decodedBytesOfTheTable : Obligations.DecodedBytesOfTheTable :=
  ⟨rfl, rfl, rfl, decode_ign rfl, rfl, rfl, rfl, rfl⟩

namespace Machine

/-- Settles O4: the move is taken and selects the decoded operation, on a machine that has not stopped. -/
theorem stepRunsTheDecodedExchange : Obligations.StepRunsTheDecodedExchange := fun _ _ _ hf hscript =>
  (step_cons hscript).trans (stepMove_instr nofun hf rfl)

end Machine

end Sys2Proof
end

section
/-! PROOFS. The heartbeat of a delivered exchange (R101, R121), and the descriptor's way from the buffer (R96, R188). -/
namespace Sys2Proof.Machine

/-- A delivered exchange sends the counter and moves it by the entry state, whatever the byte (R121, R122): in a sound state
no payload byte is turned away before the prefix. -/
theorem exchange_beats {s t : State} {b : Byte} (h : s.Inv) (hi : s.isrEn = true)
    (ht : exec (decode s.isrEn s.pstate b) s = .next t) :
    t.hb = heartbeatAfter s.pstate s.hb ∧ t.out = .tx s.hb :: s.out := by
  obtain ⟨hoff, _⟩ | ⟨_, _, rfl⟩ | ⟨_, _, _, rfl⟩ | ⟨_, _, _, rfl⟩ | ⟨_, _, hcollect⟩ := exchange_next ht
  · exact Bool.noConfusion (hi.symm.trans hoff)
  · exact ⟨rfl, rfl⟩
  · exact ⟨rfl, rfl⟩
  · exact ⟨rfl, rfl⟩
  · obtain ⟨hout, _⟩ | ⟨_, _, rfl⟩ | ⟨_, _, rfl⟩ := collect_next hcollect
    · exact absurd hout (not_le.2 h.posInside)
    · exact ⟨rfl, rfl⟩
    · exact ⟨rfl, rfl⟩

/-- Settles O23: what each of the two exchanges sends and counts is given by the state before it. -/
theorem heartbeatIgnoresTheReceivedByte : Obligations.HeartbeatIgnoresTheReceivedByte := by
  intro s t u b c rest h hi ht hu
  have hinv : State.Inv { s with script := rest } := h.withScript rest s.draws s.out
  obtain ⟨htb, hto⟩ := exchange_beats hinv hi (stepMove_rx ht)
  obtain ⟨hub, huo⟩ := exchange_beats hinv hi (stepMove_rx hu)
  exact ⟨htb.trans hub.symm, hto.trans huo.symm, hto⟩

theorem exec_latchCfg {s : State} {g0 g1 g2 g3 : Byte} (hf : s.fault = none)
    (hg : s.grp = ⟨some g0, some g1, some g2, some g3⟩) :
    exec .latchCfg s = .next (advance { s with dataType := g0, sampleCount := g1, rsv0 := g2, rsv1 := g3 }) :=
  (live_none hf _).trans (withGroup_some hg _)

theorem step_latchCfg {s : State} {b0 b1 b2 b3 : Byte} {i : Byte} {m : List (Nat × Sample)} {rest : List Move}
    (hf : s.fault = none) :
    step (s.turned .n3 ⟨some b0, some b1, some b2, some b3⟩ i m (.seq :: rest)) =
      .next { s.turned .n4 ⟨some b0, some b1, some b2, some b3⟩ i m rest with
        dataType := b0, sampleCount := b1, rsv0 := b2, rsv1 := b3 } :=
  step_turn rfl hf rfl
    (exec_latchCfg (s := s.turned .n3 ⟨some b0, some b1, some b2, some b3⟩ i m rest) hf rfl)

/-- Settles O47: four loads from address 0, then LATCH_CFG at N3. -/
theorem descriptorComesFromTheBuffer : Obligations.DescriptorComesFromTheBuffer := by
  intro s b0 b1 b2 b3 rest hf hl h0 h1 h2 h3 hscript
  have hstart : s = s.turned .n2a s.grp s.idx s.samples (List.replicate 4 .seq ++ (.seq :: rest)) := by
    rw [State.turned, ← hl, show List.replicate 4 Move.seq ++ (.seq :: rest) = s.script from hscript.symm]
  have hloads := run_loads (s := s) (l := .n2a) (g := s.grp) (i := s.idx) (m := s.samples) (rest := .seq :: rest) hf
    rfl ⟨h0, h1, h2, h3⟩
  rw [← hstart] at hloads
  exact (run_add hloads 1).trans (run_succ (step_latchCfg hf) 0)

end Sys2Proof.Machine
end

section
/-! PROOFS. A whole frame, exchange by exchange (R94, R95, R121, R125, R126, R141, R143). -/
namespace Sys2Proof.Machine

/-- The memory holds the first `n` bytes of the payload, from address 0 on. -/
def HoldsFirst (m : List Host.Cell) (payload : List Byte) (n : Nat) : Prop :=
  ∀ a, a < n → Memory.read m a = payload[a]?

theorem HoldsFirst.write {m : List Host.Cell} {payload : List Byte} {n : Nat} (h : HoldsFirst m payload n)
    (hn : n < payload.length) : HoldsFirst (Memory.write m n payload[n]) payload (n + 1) := by
  intro a ha
  obtain ha | rfl := Nat.lt_succ_iff_lt_or_eq.1 ha
  · rw [Memory.read_write_other _ _ ha.ne, h a ha]
  · rw [Memory.read_write_same, List.getElem?_eq_getElem hn]

/-- Inside the buffer a payload byte is stored after the prefix (R140, R141). -/
theorem collect_inside {s : State} (rx : Byte) (h : s.pos.toNat < s.bufLen.toNat) :
    collect rx s = .next (wrap (storeAdvance rx (bytePrefix s))) := if_neg (not_le.2 h)

/-- Out of Init an exchange counts up (R122). -/
theorem heartbeatAfter_add {p : PState} (hp : p ≠ .init) (hb : Byte) (n : Nat) :
    heartbeatAfter p (hb + BitVec.ofNat 8 n) = hb + BitVec.ofNat 8 (n + 1) := by
  rw [heartbeatAfter_eq, if_neg hp, BitVec.ofNat_add, BitVec.add_assoc]
  rfl

/-- `s` with the cells that a frame writes, after its header and `n` payload bytes, and the moves that are left: every state
on the way is one of these, over the same `s`. -/
def State.receiving (s : State) (p : PState) (n : Nat) (m : List Host.Cell) (rest : List Move) : State :=
  { s with
    pstate := p, pos := BitVec.ofNat 10 n, buf := m, hb := s.hb + BitVec.ofNat 8 (1 + n), script := rest,
    out := outputsOf (fun k => s.hb + BitVec.ofNat 8 k) (1 + n) ++ s.out }

section
variable {s : State} {p : PState} {n : Nat} {m : List Host.Cell} {b : Byte} {rest : List Move}

theorem receiving_pos_toNat (hn : n ≤ 1020) : (s.receiving p n m rest).pos.toNat = n := Nat.mod_eq_of_lt (by omega)

/-- Short of `buf_len` there is no wrap (R143). -/
theorem wrap_receiving_lt (hmax : s.bufLen.toNat ≤ 1020) (hn : n < s.bufLen.toNat) :
    wrap (s.receiving p n m rest) = s.receiving p n m rest := if_neg <| by
  rw [receiving_pos_toNat (by omega)]
  exact hn.ne

theorem wrap_receiving_eq (hmax : s.bufLen.toNat ≤ 1020) (hn : n = s.bufLen.toNat) :
    wrap (s.receiving p n m rest) =
      { s.receiving p n m rest with dataAvail := true, pos := 0, pstate := .awaitingHeader } :=
  if_pos <| (receiving_pos_toNat (by omega)).trans hn

/-- Either frame header enters a collecting state of its own, after the prefix (R94, R95, R125, R126). -/
theorem exec_frameHeader {hdr : Byte} (hhdr : hdr = 0x20 ∨ hdr = 0x30) :
    ∃ p, p ≠ .init ∧ p ≠ .awaitingHeader ∧ ∀ s : State, s.fault = none →
      exec (decode true .awaitingHeader hdr) s = .next { bytePrefix s with pstate := p } := by
  obtain rfl | rfl := hhdr
  · exact ⟨.receivingMessage, nofun, nofun, fun _ hf => live_none hf _⟩
  · exact ⟨.receivingConfig, nofun, nofun, fun _ hf => live_none hf _⟩

/-- After a frame header nothing of its payload has been collected. -/
theorem step_frameHeader {hdr : Byte} (hf : s.fault = none) (hi : s.isrEn = true) (hp : s.pstate = .awaitingHeader)
    (hpos : s.pos = 0) (hhdr : hdr = 0x20 ∨ hdr = 0x30) (hscript : s.script = .rx hdr :: rest) :
    ∃ p, p ≠ .init ∧ p ≠ .awaitingHeader ∧ step s = .next (s.receiving p 0 s.buf rest) := by
  obtain ⟨p, hinit, hwait, hexec⟩ := exec_frameHeader hhdr
  have hstart : { bytePrefix { s with script := rest } with pstate := p } = s.receiving p 0 s.buf rest := by
    simp [bytePrefix, emit, State.receiving, hp, hpos, heartbeatAfter_eq, outputsOf]
  refine ⟨p, hinit, hwait, ?_⟩
  rw [stepRunsTheDecodedExchange s hdr rest hf hscript, show decode s.isrEn s.pstate hdr = _ by rw [hi, hp], ← hstart]
  exact hexec _ hf

/-- A payload byte short of `buf_len` beats, and is stored where the bytes before it end (R120, R141). -/
theorem storeAdvance_receiving (hinit : p ≠ .init) (hn : n ≤ 1020) :
    storeAdvance b (bytePrefix (s.receiving p n m rest)) = s.receiving p (n + 1) (Memory.write m n b) rest := by
  have hbeat := heartbeatAfter_add hinit s.hb (1 + n)
  have hpos : (BitVec.ofNat 10 n).toNat = n := receiving_pos_toNat (s := s) (p := p) (m := m) (rest := rest) hn
  simp only [storeAdvance, bufWrite, bytePrefix, emit, State.receiving, hbeat, hpos]
  rw [show BitVec.ofNat 10 (n + 1) = BitVec.ofNat 10 n + 1 from BitVec.ofNat_add n 1]
  rfl

/-- The step of a payload byte: stored and counted, and the wrap tested (R140, R143). -/
theorem step_payload (hf : s.fault = none) (hi : s.isrEn = true) (hinit : p ≠ .init) (hwait : p ≠ .awaitingHeader)
    (hmax : s.bufLen.toNat ≤ 1020) (hn : n < s.bufLen.toNat) :
    step (s.receiving p n m (.rx b :: rest)) = .next (wrap (s.receiving p (n + 1) (Memory.write m n b) rest)) := by
  have hpos := receiving_pos_toNat (s := s) (p := p) (m := m) (rest := rest) (n := n) (by omega)
  have hin : (s.receiving p n m rest).pos.toNat < s.bufLen.toNat := hpos.symm ▸ hn
  calc step (s.receiving p n m (.rx b :: rest))
    _ = exec (decode s.isrEn p b) (s.receiving p n m rest) := stepRunsTheDecodedExchange _ b rest hf rfl
    _ = live (s.receiving p n m rest) (collect b (s.receiving p n m rest)) :=
      exec_decode_collecting (s := s.receiving p n m rest) hi hwait
    _ = .next (wrap (storeAdvance b (bytePrefix (s.receiving p n m rest)))) :=
      (live_none hf _).trans (collect_inside b hin)
    _ = .next (wrap (s.receiving p (n + 1) (Memory.write m n b) rest)) := by
      rw [storeAdvance_receiving hinit (by omega)]

/-- A frame up to any of its bytes: the buffer holds those so far, and the others are still to come. Only after the last is
the wrap more than a test. -/
theorem run_frame {hdr : Byte} {payload : List Byte} (h : s.Inv) (hf : s.fault = none) (hi : s.isrEn = true)
    (hp : s.pstate = .awaitingHeader) (hhdr : hdr = 0x20 ∨ hdr = 0x30) (hlen : payload.length = s.bufLen.toNat)
    (hscript : s.script = .rx hdr :: payload.map Move.rx ++ rest) (k : Nat) (hk : k ≤ payload.length) :
    ∃ p m, p ≠ .init ∧ p ≠ .awaitingHeader ∧ HoldsFirst m payload k ∧
      run (1 + k) s = .next (wrap (s.receiving p k m ((payload.drop k).map Move.rx ++ rest))) := by
  induction k with
  | zero =>
    obtain ⟨p, hinit, hwait, hstep⟩ := step_frameHeader hf hi hp (h.headerAtZero hp) hhdr hscript
    have hlow := h.lenLow
    have hwrap := wrap_receiving_lt (p := p) (m := s.buf) (rest := payload.map Move.rx ++ rest) h.lenHigh (n := 0)
      (by omega)
    exact ⟨p, s.buf, hinit, hwait, nofun, (run_succ hstep 0).trans (congrArg _ hwrap.symm)⟩
  | succ k ih =>
    obtain ⟨p, m, hinit, hwait, hm, hrun⟩ := ih (by omega)
    rw [wrap_receiving_lt h.lenHigh (by omega), List.drop_eq_getElem_cons hk] at hrun
    have hstep := step_payload (m := m) (b := payload[k]) (rest := (payload.drop (k + 1)).map Move.rx ++ rest) hf hi
      hinit hwait h.lenHigh (n := k) (by omega)
    exact ⟨p, _, hinit, hwait, hm.write hk, (run_add hrun 1).trans (run_succ hstep 0)⟩

end

/-- Settles O22: the run up to a byte before the last, where the wrap leaves the state alone, and up to the last, where it
ends the frame. -/
theorem framedPayloadIsCollected : Obligations.FramedPayloadIsCollected := by
  intro s hdr payload rest h hf hi hp hd hhdr hlen hscript
  have hhigh := h.lenHigh
  refine ⟨fun k hk => ?_, ?_⟩
  · obtain ⟨p, m, _, _, _, hrun⟩ := run_frame h hf hi hp hhdr hlen hscript k hk.le
    rw [wrap_receiving_lt hhigh (by omega)] at hrun
    exact ⟨_, hrun, hd, receiving_pos_toNat (by omega)⟩
  · obtain ⟨p, m, _, _, hm, hrun⟩ := run_frame h hf hi hp hhdr hlen hscript _ le_rfl
    rw [wrap_receiving_eq hhigh hlen, List.drop_length] at hrun
    refine ⟨_, hrun, fun a ha => (if_pos (hlen ▸ ha)).trans (hm a ha), ?_⟩
    rw [State.receiving, ← hp, ← h.headerAtZero hp]
    rfl

end Sys2Proof.Machine
end

section
/-! PROOFS. The byte machine exchange by exchange: polls, headers and payload bytes (R121 to R127, R141 to R146), what an
exchange leaves to the sequencer (R239), and the heartbeat across the moves between two exchanges (R129). -/
namespace Sys2Proof.Machine

section
variable {s t : State}

/-- In AwaitingHeader the prefix counts up (R122). -/
theorem bytePrefix_awaitingHeader (hp : s.pstate = .awaitingHeader) :
    bytePrefix s = { s with hb := s.hb + 1, out := .tx s.hb :: s.out } := by
  simp only [bytePrefix, emit, hp, heartbeatAfter_eq, reduceCtorEq, if_false]

/-- A read of the buffer after a write inside it. -/
theorem bufRead_bufWrite {n : Nat} (hn : n < s.bufLen.toNat) (v : Byte) (a : Nat) :
    bufRead (bufWrite s n v) a = if a = n then some v else bufRead s a := by
  simp only [bufRead, bufWrite_bufLen, bufWrite_buf, Memory.read_write]
  by_cases ha : a = n
  · simp [ha, hn]
  · simp [ha]

/-- Each collecting operation is the payload step; inside the buffer that stores the byte (R140, R142, R144, R146). -/
theorem exec_collecting {rx : Byte} {i : Instr} (hf : s.fault = none) (hin : s.pos.toNat < s.bufLen.toNat)
    (hi : i = .collectInit rx ∨ i = .collectCfg rx ∨ i = .collectMsg rx) :
    exec i s = .next (wrap (storeAdvance rx (bytePrefix s))) := by
  have hcollect : exec i s = live s (collect rx s) := by obtain rfl | rfl | rfl := hi <;> rfl
  rw [hcollect, live_none hf, collect_inside rx hin]

/-- What the prefix and the store write, cell by cell. -/
theorem storeAdvance_bytePrefix (rx : Byte) (s : State) :
    storeAdvance rx (bytePrefix s) = { s with
      buf := Memory.write s.buf s.pos.toNat rx, pos := s.pos + 1,
      hb := if s.pstate = .init then s.hb - 1 else s.hb + 1, out := .tx s.hb :: s.out } := by
  rw [← heartbeatAfter_eq]
  rfl

/-- The buffer after a payload byte, whether or not the frame is complete with it (R141, R143). -/
theorem bufRead_payload (hin : s.pos.toNat < s.bufLen.toNat) (rx : Byte) (a : Nat) :
    bufRead (wrap (storeAdvance rx (bytePrefix s))) a = if a = s.pos.toNat then some rx else bufRead s a := by
  obtain ⟨_, hw⟩ | ⟨_, hw⟩ := wrap_cases (storeAdvance rx (bytePrefix s)) <;> rw [hw] <;>
    exact bufRead_bufWrite hin rx a

/-- The position after a payload byte, before the wrap; it has 10 bits (R141, D24). -/
theorem storeAdvance_pos_toNat (rx : Byte) (s : State) :
    (storeAdvance rx s).pos.toNat = (s.pos.toNat + 1) % 1024 := BitVec.toNat_add s.pos 1

/-- An exchange writes cells of the byte machine, and beside them the fault, the draws and the outputs (R120, R239). -/
theorem exchange_frame {b : Byte} (h : exec (decode s.isrEn s.pstate b) s = .next t) :
    t = { s with
      pstate := t.pstate, pos := t.pos, buf := t.buf, dataAvail := t.dataAvail, hb := t.hb, fault := t.fault,
      draws := t.draws, out := t.out } := by
  obtain ⟨_, rfl⟩ | ⟨_, _, rfl⟩ | ⟨_, _, _, rfl⟩ | ⟨_, _, _, rfl⟩ | ⟨_, _, hcollect⟩ := exchange_next h
  case inr.inr.inr.inr => obtain ⟨_, rfl⟩ | ⟨_, _, rfl⟩ | ⟨_, _, rfl⟩ := collect_next hcollect <;> rfl
  all_goals rfl

/-- In a sound state that has not stopped a delivered exchange goes through, sends the counter and moves it by the entry
state (R121, R122). -/
theorem step_exchange {b : Byte} {rest : List Move} (h : s.Inv) (hf : s.fault = none) (hi : s.isrEn = true)
    (hscript : s.script = .rx b :: rest) :
    ∃ t, step s = .next t ∧ t.hb = heartbeatAfter s.pstate s.hb ∧ t.out = .tx s.hb :: s.out := by
  have hinv : State.Inv { s with script := rest } := h.withScript rest s.draws s.out
  obtain ⟨t, ht⟩ : ∃ t, exec (decode s.isrEn s.pstate b) { s with script := rest } = .next t := by
    by_cases hp : s.pstate = .awaitingHeader
    · rw [hi, hp]
      simp only [decode, if_true]
      split
      · exact ⟨_, live_none hf _⟩
      split
      · exact ⟨_, live_none hf _⟩
      split
      · exact ⟨_, live_none hf _⟩
      · exact ⟨_, live_none hf _⟩
    · exact ⟨_, (exec_decode_collecting (s := { s with script := rest }) hi hp).trans
        ((live_none hf _).trans (collect_inside b hinv.posInside))⟩
  exact ⟨t, (stepRunsTheDecodedExchange s b rest hf hscript).trans ht,
    exchange_beats (s := { s with script := rest }) hinv hi ht⟩

/-- The difference tells the two directions apart (R129). -/
theorem heartbeatAfter_sub (p : PState) (hb : Byte) :
    heartbeatAfter p hb - hb = if p = .init then 0xFF else 0x01 := by
  rw [heartbeatAfter_eq]
  split <;> bv_omega

namespace Gives

/-- No operation takes or places a move (log 1). -/
theorem keepsScript (i : Instr) : Gives (·.script = s.script) (exec i s) := by
  cases i with
  | hbNop | msgHdr | cfgHdr | ign | dropped => exact live (next rfl)
  | collectInit rx | collectCfg rx | collectMsg rx =>
    refine live fun t ht => ?_
    obtain ⟨_, rfl⟩ | ⟨_, _, rfl⟩ | ⟨_, _, rfl⟩ := collect_next ht <;> rfl
  | beginCmd part =>
    cases part with
    | command => exact live (whenIdle (fun _ => next rfl) rfl)
    | complete => exact live (next rfl)
  | readCmd part =>
    cases part with
    | command => exact live (whenIdle (fun _ => ite (fun _ => next rfl) fun _ => next rfl) rfl)
    | clearIdx | loopTest | complete => exact live (next rfl)
  | lengthCmd => exact live (whenIdle (fun _ => next rfl) rfl)
  | getCmd i =>
    refine live (whenIdle (fun _ => ite (fun _ => raise rfl) fun _ => ?_) rfl)
    split
    · exact next rfl
    · exact raise rfl
  | waitDa =>
    refine live (next ?_)
    split <;> rfl
  | loadGrp a k =>
    refine live ?_
    split
    · exact next rfl
    · exact raise rfl
  | suspend | resume | rearm | sessionInit | clearDa | sigAssert | sigDeassert | allocSam | connect | requestFrame
  | requestConfig => exact live (next rfl)
  | checkSentinel | checkAck | latchCfg => exact live (withGroup (fun _ _ _ _ => next rfl) fun _ => rfl)
  | checkCfg => exact live (ite (fun _ => raise rfl) fun _ => ite (fun _ => raise rfl) fun _ => next rfl)
  | realloc => exact live (ite (fun _ => raise rfl) fun _ => next rfl)
  | storeSam => exact live (withGroup (fun _ _ _ _ => ite (fun _ => raise rfl) fun _ => next rfl) fun _ => rfl)

end Gives

/-- A step takes the head of the script and leaves the rest, the reset event included (logs 1, 27). -/
theorem step_script {m : Move} {rest : List Move} (hscript : s.script = m :: rest) (ht : step s = .next t) :
    t.script = rest := by
  rw [step_cons hscript] at ht
  obtain ⟨_, rfl⟩ | ⟨_, _, i, _, hexec⟩ | ⟨_, _, _, rfl⟩ := stepMove_next ht
  · rfl
  · exact Gives.keepsScript i t hexec
  · rfl

/-- The first step of a run that goes through. -/
theorem run_succ_next {k : Nat} {u : State} (h : run (k + 1) s = .next u) : ∃ t, step s = .next t ∧ run k t = .next u := by
  simp only [run] at h
  split at h
  · exact ⟨_, ‹_›, h⟩
  · cases h
  · cases h

/-- Turns and commands leave the heartbeat to the exchange that comes after them (R25). -/
theorem run_betweenExchanges {u : State} {between rest : List Move} (h : s.Inv)
    (hquiet : ∀ m ∈ between, m = .seq ∨ ∃ c, m = .cmd c) (hscript : s.script = between ++ rest)
    (hrun : run between.length s = .next u) : u.Inv ∧ u.hb = s.hb ∧ u.script = rest := by
  induction between generalizing s with
  | nil =>
    cases hrun
    exact ⟨h, rfl, hscript⟩
  | cons m between ih =>
    obtain ⟨t, ht, hrun⟩ := run_succ_next hrun
    obtain ⟨hm, hquiet⟩ := List.forall_mem_cons.1 hquiet
    obtain ⟨hrx, hreset⟩ : (∀ b, m ≠ .rx b) ∧ m ≠ .reset := by
      obtain rfl | ⟨c, rfl⟩ := hm <;> exact ⟨nofun, nofun⟩
    obtain ⟨hhb, _⟩ := onlyExchangesAndResetWriteTheHeartbeat s t m _ hrx hscript ht
    rw [if_neg hreset] at hhb
    obtain ⟨hinv, hhb', hrest⟩ := ih (everyStepKeepsTheInvariant s t h ht) hquiet (step_script hscript ht) hrun
    exact ⟨hinv, hhb'.trans hhb, hrest⟩

end

/-- Settles O13: the store and the prefix, and a wrap whose test fails. -/
theorem payloadByteIsStored : Obligations.PayloadByteIsStored := by
  intro s rx i hf hmore hi
  have hin : s.pos.toNat < s.bufLen.toNat := by omega
  refine ⟨_, exec_collecting hf hin (hi.imp And.left (Or.imp And.left And.left)), bufRead_payload hin rx, ?_⟩
  have hpos := storeAdvance_pos_toNat rx (bytePrefix s)
  obtain ⟨hlast, _⟩ | ⟨_, hwrap⟩ := wrap_cases (storeAdvance rx (bytePrefix s))
  · simp only [storeAdvance_bufLen, bytePrefix_bufLen, bytePrefix_pos] at hpos hlast
    omega
  · rw [hwrap, storeAdvance_bytePrefix]

/-- Settles O14: the store and the prefix, and the wrap of a complete frame. -/
theorem lastPayloadByteWraps : Obligations.LastPayloadByteWraps := by
  intro s rx i hf hlast hmax hi
  have hin : s.pos.toNat < s.bufLen.toNat := by omega
  refine ⟨_, exec_collecting hf hin (hi.imp And.left (Or.imp And.left And.left)), bufRead_payload hin rx, ?_⟩
  have hpos := storeAdvance_pos_toNat rx (bytePrefix s)
  obtain ⟨_, hwrap⟩ | ⟨hmore, _⟩ := wrap_cases (storeAdvance rx (bytePrefix s))
  · rw [hwrap, storeAdvance_bytePrefix]
  · simp only [storeAdvance_bufLen, bytePrefix_bufLen, bytePrefix_pos] at hpos hmore
    omega

/-- Settles O17: both exchanges send the counter, which the moves between them leave as the first has put it. -/
theorem heartbeatDirectionShowsInit : Obligations.HeartbeatDirectionShowsInit := by
  intro s a b between rest h hf hi hquiet hscript
  obtain ⟨t, ht, hhb, hout⟩ := step_exchange h hf hi hscript
  refine ⟨t, s.hb, ht, hout, fun u hrun huf hui => ?_⟩
  obtain ⟨hinv, huhb, huscript⟩ :=
    run_betweenExchanges (everyStepKeepsTheInvariant s t h ht) hquiet (step_script hscript ht) hrun
  obtain ⟨v, hv, _, hvout⟩ := step_exchange hinv huf hui huscript
  refine ⟨v, u.hb, hv, hvout, ?_⟩
  rw [huhb, hhb, heartbeatAfter_sub]

/-- Settles O18: none of these cells is among those an exchange writes. -/
theorem exchangeLeavesTheSequencerAlone : Obligations.ExchangeLeavesTheSequencerAlone := by
  intro s t b rest hscript ht
  rw [step_cons hscript] at ht
  rw [exchange_frame (stepMove_rx ht)]
  exact ⟨rfl, rfl, rfl, rfl, rfl, rfl, rfl, rfl, rfl, rfl, rfl, rfl, rfl, rfl⟩

/-- Settles O11: both operations are the prefix alone, and in AwaitingHeader it counts up. -/
theorem pollAndIgnoredHeaderOnlyBeat : Obligations.PollAndIgnoredHeaderOnlyBeat := by
  intro s hf hp
  rw [← bytePrefix_awaitingHeader hp, hp]
  exact ⟨rfl, live_none hf _, fun rx =>
    ⟨fun hbeat hmsg hcfg => decode_ign ((Instr.wf_ign_iff rx).2 ⟨hbeat, hmsg, hcfg⟩), live_none hf _⟩⟩

/-- Settles O12: the prefix, which in AwaitingHeader counts up, and the collecting state of the header. -/
theorem frameHeaderStartsCollecting : Obligations.FrameHeaderStartsCollecting := by
  intro s hf hp
  have hmsg : exec .msgHdr s = .next { bytePrefix s with pstate := .receivingMessage } := live_none hf _
  have hcfg : exec .cfgHdr s = .next { bytePrefix s with pstate := .receivingConfig } := live_none hf _
  rw [hmsg, hcfg, bytePrefix_awaitingHeader hp, hp]
  exact ⟨rfl, rfl, rfl, rfl⟩

end Sys2Proof.Machine
end

section
/-! PROOFS. The handshake: the micro-ops it runs (R160 to R167), the whole group it tests (R161 to R164), and the window of
REARM (R160, R168). -/
namespace Sys2Proof.Machine

/-! ### The micro-ops -/

section
variable {s : State}

/-- Two groups of four bytes are equal as patterns of 32 bits when they are byte by byte. -/
theorem append_bytes_inj {a0 a1 a2 a3 b0 b1 b2 b3 : Byte} :
    a0 ++ a1 ++ a2 ++ a3 = b0 ++ b1 ++ b2 ++ b3 ↔ a0 = b0 ∧ a1 = b1 ∧ a2 = b2 ∧ a3 = b3 := by
  simp only [← BitVec.toNat_inj, toNat_append_byte]
  omega

/-- The group test is one of all 32 bits (R164, R167). -/
theorem groupIs_iff_append (c g0 g1 g2 g3 : Byte) :
    groupIs c g0 g1 g2 g3 = true ↔ g0 ++ g1 ++ g2 ++ g3 = c ++ c ++ c ++ c := by
  rw [groupIs_iff, append_bytes_inj]

theorem exec_checkSentinel {g0 g1 g2 g3 : Byte} (hf : s.fault = none)
    (hg : s.grp = ⟨some g0, some g1, some g2, some g3⟩) :
    exec .checkSentinel s = .next (goto (if groupIs 0xFF g0 g1 g2 g3 then .h8 else .h1) s) :=
  (live_none hf _).trans (withGroup_some hg _)

theorem exec_checkAck {g0 g1 g2 g3 : Byte} (hf : s.fault = none)
    (hg : s.grp = ⟨some g0, some g1, some g2, some g3⟩) :
    exec .checkAck s = .next (goto (if groupIs 0x00 g0 g1 g2 g3 then .n1 else .h1) s) :=
  (live_none hf _).trans (withGroup_some hg _)

/-- With a frame complete the wait is over (R182). -/
theorem exec_waitDa_complete (hf : s.fault = none) (hd : s.dataAvail = true) :
    exec .waitDa s = .next (advance s) := by
  simp only [exec, execWaitDa, live_none hf, if_pos hd]

end

/-- Settles O33: the clear, and the label that follows. -/
theorem clearDropsTheFrameFlag : Obligations.ClearDropsTheFrameFlag := fun _ hf => live_none hf _

/-- Settles O34: the line is written, and the label that follows or the caller's. -/
theorem signalLineIsDriven : Obligations.SignalLineIsDriven := fun _ hf => ⟨live_none hf _, live_none hf _⟩

/-- Settles O35: what each latch holds after one of them is put. -/
theorem loadFillsOneLatch : Obligations.LoadFillsOneLatch := fun s _ k b hf hb =>
  ⟨_, exec_loadGrp_written hf hb, Group.get_put s.grp k b, rfl⟩

/-- Settles O37: each entry is a jump, after the return label is set. -/
theorem subsequencesAreEntered : Obligations.SubsequencesAreEntered := fun _ hf =>
  ⟨live_none hf _, fun _ => live_none hf _, live_none hf _⟩

/-- Settles O41: the write of REARM, and the label that follows. -/
theorem rearmReturnsToInit : Obligations.RearmReturnsToInit := fun _ hf => live_none hf _

/-- Settles O43: the four bytes are the sentinel's together when each of them is. -/
theorem sentinelTestBranches : Obligations.SentinelTestBranches := by
  intro s g0 g1 g2 g3 hf hg
  rw [exec_checkSentinel hf hg]
  simp only [groupIs_iff_append]
  rfl

/-- Settles O44: the four bytes are the acknowledgment's together when each of them is. -/
theorem ackTestBranches : Obligations.AckTestBranches := by
  intro s g0 g1 g2 g3 hf hg
  rw [exec_checkAck hf hg]
  simp only [groupIs_iff_append]
  rfl

/-- A row of R181: at `l` the sequencer runs `i`, and where that goes on it goes to `l'`. -/
structure Label.Row (l : Label) (i : Instr) (l' : Label) : Prop where
  micro : ∀ s : State, microInstr (goto l s) = some i
  succ : ∀ hsAckRearm, Label.succ hsAckRearm l = l'

/-- A turn at a row of the table. -/
theorem step_row {s t : State} {l l' : Label} {i : Instr} {rest : List Move} (hrow : Label.Row l i l')
    (hf : s.fault = none) (hl : s.seqPc = l) (hscript : s.script = .seq :: rest)
    (hexec : exec i { s with script := rest } = .next (advance t)) (hparams : t.params = s.params)
    (hpc : t.seqPc = s.seqPc) : step s = .next (goto l' t) := by
  have hmicro : microInstr s = some i := by
    subst hl
    exact hrow.micro s
  rw [step_turn hmicro hf hscript hexec, advance, hparams, hpc, hl, hrow.succ]

/-! ### A completed group -/

/-- Settles O45: the wait and the clear, four loads from address 0, and the test at H7. -/
theorem sentinelGroupIsTestedWhole : Obligations.SentinelGroupIsTestedWhole := by
  intro s b0 b1 b2 b3 rest hf hl hd h0 h1 h2 h3 hscript
  have hwait : step s = .next (goto .h5 { s with script := List.replicate 6 .seq ++ rest }) :=
    step_row ⟨fun _ => rfl, fun _ => rfl⟩ hf hl hscript (exec_waitDa_complete hf hd) rfl rfl
  have hclear : step (goto .h5 { s with script := List.replicate 6 .seq ++ rest }) =
      .next ((clearDataAvail s).turned .h6a s.grp s.idx s.samples (List.replicate 5 .seq ++ rest)) :=
    step_turn rfl hf rfl (clearDropsTheFrameFlag _ hf)
  have hloads := run_loads (s := clearDataAvail s) (l := .h6a) (g := s.grp) (i := s.idx) (m := s.samples)
    (rest := .seq :: rest) hf rfl ⟨h0, h1, h2, h3⟩
  have htest := step_turn (rest := rest)
    (s := (clearDataAvail s).turned .h7 ⟨some b0, some b1, some b2, some b3⟩ s.idx s.samples (.seq :: rest))
    rfl hf rfl (exec_checkSentinel hf rfl)
  simp only [groupIs_iff] at htest
  exact (run_succ hwait 6).trans <| (run_succ hclear 5).trans <| (run_add hloads 1).trans (run_succ htest 0)

/-! ### The window of REARM -/

/-- `s` at `l`, with delivery off (R198). -/
def State.suspendedAt (s : State) (l : Label) : State := { s with isrEn := false, seqPc := l }

/-- The write of REARM (R160). -/
def State.rearmed (s : State) : State := { s with pstate := .init, pos := 0, dataAvail := false }

/-- `s` after `n` exchanges that are lost: as many free bytes are sent (R229, log 4), and `rest` is left of the moves. -/
def State.lost (s : State) (n : Nat) (rest : List Move) : State :=
  { s with
    draws := s.draws + n, out := outputsOf (fun k => Config.freeTx (s.draws + k)) n ++ s.out, script := rest }

theorem State.lost_lost (s : State) (m n : Nat) (rest rest' : List Move) :
    (s.lost m rest).lost n rest' = s.lost (m + n) rest' := by
  simp only [State.lost, outputsOf_add, List.append_assoc, Nat.add_assoc]

section
variable {s : State} {rest : List Move}

/-- While delivery is off an exchange is lost (R229). -/
theorem step_dropped {b : Byte} (hf : s.fault = none) (hi : s.isrEn = false) (hscript : s.script = .rx b :: rest) :
    step s = .next (s.lost 1 rest) := by
  have hdecode : decode s.isrEn s.pstate b = .dropped b := by rw [hi]; rfl
  rw [stepRunsTheDecodedExchange s b rest hf hscript, hdecode]
  exact live_none hf _

/-- So are any number of them in a row. -/
theorem run_dropped (bytes : List Byte) (hf : s.fault = none) (hi : s.isrEn = false)
    (hscript : s.script = bytes.map Move.rx ++ rest) :
    run bytes.length s = .next (s.lost bytes.length rest) := by
  induction bytes generalizing s with
  | nil =>
    rw [show rest = s.script from hscript.symm]
    rfl
  | cons b bytes ih =>
    have hfirst : step s = .next (s.lost 1 (bytes.map Move.rx ++ rest)) := step_dropped hf hi hscript
    rw [List.length_cons, run_succ hfirst, ih (s := s.lost 1 _) hf hi rfl, State.lost_lost, Nat.add_comm]

/-- A turn that leaves delivery off, and the exchanges that are lost after it. -/
theorem run_turn_dropped {t : State} {l l' : Label} {i : Instr} (bytes : List Byte) (hrow : Label.Row l i l')
    (hf : s.fault = none) (hl : s.seqPc = l) (hscript : s.script = .seq :: (bytes.map Move.rx ++ rest))
    (hexec : exec i { s with script := bytes.map Move.rx ++ rest } =
      .next (advance { t with script := bytes.map Move.rx ++ rest }))
    (ht : t = { s with isrEn := false, pstate := t.pstate, pos := t.pos, dataAvail := t.dataAvail }) :
    run (bytes.length + 1) s = .next ((goto l' t).lost bytes.length rest) := by
  have hfault : t.fault = none := by rw [ht, hf]
  have hoff : t.isrEn = false := by rw [ht]
  have hstep := step_row hrow hf hl hscript hexec (by rw [ht]) (by rw [ht])
  exact (run_succ hstep _).trans (run_dropped (s := goto l' { t with script := _ }) bytes hfault hoff rfl)

/-- A window from `l1` on, wherever it stands in the program: all that is left of the exchanges on either side of its write
is that they were made. -/
theorem run_rearmWindow {l1 l2 l3 l : Label} {before after : List Byte} (hsuspend : Label.Row l1 .suspend l2)
    (hrearm : Label.Row l2 .rearm l3) (hresume : Label.Row l3 .resume l) (hf : s.fault = none) (hl : s.seqPc = l1)
    (hscript : s.script = .seq :: before.map Move.rx ++ .seq :: after.map Move.rx ++ .seq :: rest) :
    run (3 + before.length + after.length) s =
      .next { s.rearmed.lost (before.length + after.length) rest with isrEn := true, seqPc := l } := by
  rw [List.append_assoc] at hscript
  have hopen : run (before.length + 1) s =
      .next ((s.suspendedAt l2).lost before.length (.seq :: (after.map Move.rx ++ .seq :: rest))) :=
    run_turn_dropped (t := { s with isrEn := false }) before hsuspend hf hl hscript (live_none hf _) rfl
  have hwrite : run (after.length + 1)
      ((s.suspendedAt l2).lost before.length (.seq :: (after.map Move.rx ++ .seq :: rest))) =
        .next (((s.rearmed.suspendedAt l3).lost before.length _).lost after.length (.seq :: rest)) :=
    run_turn_dropped (t := (s.rearmed.suspendedAt l2).lost before.length _) after hrearm hf rfl rfl (live_none hf _) rfl
  rw [State.lost_lost] at hwrite
  have hclose : step ((s.rearmed.suspendedAt l3).lost (before.length + after.length) (.seq :: rest)) =
      .next { s.rearmed.lost (before.length + after.length) rest with isrEn := true, seqPc := l } :=
    step_row (t := { (s.rearmed.suspendedAt l3).lost _ rest with isrEn := true }) hresume hf rfl rfl (live_none hf _) rfl
      rfl
  rw [show 3 + before.length + after.length = before.length + 1 + (after.length + 1 + 1) by omega]
  exact (run_add hopen _).trans <| (run_add hwrite 1).trans (run_succ hclose 0)

end

/-- Settles O42: the two windows are the same three turns at their own labels. -/
theorem rearmWindowDropsExchanges : Obligations.RearmWindowDropsExchanges := by
  rintro s l before after rest hf (⟨hl, rfl⟩ | ⟨hl, rfl⟩) hscript
  · exact run_rearmWindow (l2 := .h2) (l3 := .h3) ⟨fun _ => rfl, fun _ => rfl⟩ ⟨fun _ => rfl, fun _ => rfl⟩
      ⟨fun _ => rfl, fun _ => rfl⟩ hf hl hscript
  · exact run_rearmWindow (l2 := .h9b) (l3 := .h9c) ⟨fun _ => rfl, fun _ => rfl⟩ ⟨fun _ => rfl, fun _ => rfl⟩
      ⟨fun _ => rfl, fun _ => rfl⟩ hf hl hscript

end Sys2Proof.Machine
end

section
/-! PROOFS. The commands of the port (R183, R193 to R200, R234) and the steps that READ names for itself
(R194, R195). -/
namespace Sys2Proof.Machine

section
variable {s : State}

/-- A command at IDLE is admitted, on a machine that has not stopped (R183). -/
theorem live_whenIdle (hf : s.fault = none) (hl : s.seqPc = .idle) (k : Answer) : live s (whenIdle s k) = k :=
  (live_none hf _).trans (whenIdle_pos hl k)

theorem exec_getCmd_written {i : Nat} {w : Sample} (hf : s.fault = none) (hl : s.seqPc = .idle)
    (hi : i < s.samLen.toNat) (hw : samRead s i = some w) : exec (.getCmd i) s = .next (emit (.sample w) s) := by
  have hin : ¬((i : Int) < 0 ∨ (s.samLen.toNat : Int) ≤ i) := by omega
  simp only [exec, execGet, live_whenIdle hf hl, if_neg hin, Int.toNat_natCast, hw]

theorem exec_getCmd_unwritten {i : Nat} (hf : s.fault = none) (hl : s.seqPc = .idle) (hi : i < s.samLen.toNat)
    (hw : samRead s i = none) : exec (.getCmd i) s = raise (.uninit .sam i) s := by
  have hin : ¬((i : Int) < 0 ∨ (s.samLen.toNat : Int) ≤ i) := by omega
  simp only [exec, execGet, live_whenIdle hf hl, if_neg hin, Int.toNat_natCast, hw]

end

/-- Settles O24: both are admitted, and `read` goes on by the session. -/
theorem beginAndReadAtIdle : Obligations.BeginAndReadAtIdle := fun _ hf hl =>
  ⟨live_whenIdle hf hl _, fun hup => (live_whenIdle hf hl _).trans (if_pos hup),
    fun hdown => (live_whenIdle hf hl _).trans (if_neg (hdown ▸ nofun))⟩

/-- Settles O25: every command asks for admission first. -/
theorem busyCommandsAreTurnedAway : Obligations.BusyCommandsAreTurnedAway := by
  intro s c hf hl
  obtain ⟨k, hadmission⟩ : ∃ k, exec (commandInstr c) s = live s (whenIdle s k) := by cases c <;> exact ⟨_, rfl⟩
  exact hadmission.trans ((live_none hf _).trans (whenIdle_neg hl k))

/-- Settles O26: the count is put out. -/
theorem lengthReturnsTheSampleCount : Obligations.LengthReturnsTheSampleCount := fun _ hf hl => live_whenIdle hf hl _

/-- Settles O27: the cell read is put out. -/
theorem getReturnsTheSample : Obligations.GetReturnsTheSample := fun _ _ _ hf hl hi hw =>
  exec_getCmd_written hf hl hi hw

/-- Settles O28: the range is tested before the cell is read. -/
theorem getOutOfRangeOrUnwrittenFaults : Obligations.GetOutOfRangeOrUnwrittenFaults :=
  ⟨fun _ _ hf hl hout => (live_whenIdle hf hl _).trans (if_pos hout),
    fun _ _ hf hl hi hw => exec_getCmd_unwritten hf hl hi hw⟩

/-- Settles O29: the completion tests nothing. -/
theorem beginCompletesWithTrue : Obligations.BeginCompletesWithTrue := fun _ hf => live_none hf _

/-- Settles O30: the test at A3 chooses the label, the other two steps test nothing. -/
theorem readLoopSteps : Obligations.ReadLoopSteps := by
  intro s hf
  have htest : exec (.readCmd .loopTest) s = .next (goto (if s.idx = s.sampleCount then .a6 else .a4a) s) :=
    live_none hf _
  refine ⟨live_none hf _, fun hdone => ?_, fun hmore => ?_, live_none hf _⟩
  · rw [htest, if_pos hdone, goto]
  · rw [htest, if_neg hmore, goto]

end Sys2Proof.Machine
end

section
/-! PROOFS. The micro-ops of a session: delivery and the wait (R182, R198, R199), session initialisation (R184), the
negotiation and the sample store (R188 to R195). -/
namespace Sys2Proof.Machine

section
variable {s : State}

/-- Delivery decides whether an exchange is dropped, in every protocol state (R93). -/
theorem decode_eq_dropped_iff (isrEn : Bool) (p : PState) (b : Byte) :
    decode isrEn p b = .dropped b ↔ isrEn = false := by
  refine ⟨fun h => ?_, fun h => h ▸ rfl⟩
  have hselected := (Laws.Selected.of_decode isrEn p b).2.2
  rw [h] at hselected
  simpa [Instr.selectedIn] using hselected

/-- With no frame complete the wait is held (R182, log 20). -/
theorem exec_waitDa_held (hf : s.fault = none) (hd : s.dataAvail = false) : exec .waitDa s = .next s := by
  simp [exec, execWaitDa, live_none hf, hd]

theorem samRead_of_nil (h : s.samples = []) (i : Nat) : samRead s i = none := by simp [samRead, h]

/-- CHECK_CFG on a machine that has not stopped: the data type, then the count (R189, D25). -/
theorem exec_checkCfg (hf : s.fault = none) :
    exec .checkCfg s =
      if s.dataType ≠ 0x01 then raise (.badDataType s.dataType) s
      else if s.sampleCount = 0 then raise .zeroSampleCount s
      else .next (goto .n5 s) :=
  live_none hf _

end

/-- Settles O31: the write of `isr_en`, which is what the decoder goes by. -/
theorem suspendAndResumeGateDelivery : Obligations.SuspendAndResumeGateDelivery := fun _ hf =>
  ⟨⟨_, live_none hf _, rfl, fun b => (decode_eq_dropped_iff _ _ b).2 rfl⟩,
    ⟨_, live_none hf _, rfl, fun b h => Bool.noConfusion ((decode_eq_dropped_iff _ _ b).1 h)⟩⟩

/-- Settles O32: by the frame flag. -/
theorem waitHoldsUntilAFrameCompletes : Obligations.WaitHoldsUntilAFrameCompletes := fun _ hf =>
  ⟨exec_waitDa_complete hf, exec_waitDa_held hf⟩

/-- Settles O40: both memories are emptied, and the cells are written. -/
theorem sessionInitStartsAFreshSession : Obligations.SessionInitStartsAFreshSession := fun _ hf =>
  ⟨_, live_none hf _, bufRead_of_nil rfl, samRead_of_nil rfl, rfl⟩

/-- Settles O46: the four latches are read and copied. -/
theorem descriptorIsLatched : Obligations.DescriptorIsLatched := fun _ _ _ _ _ hf hg => exec_latchCfg hf hg

/-- Settles O48: the two tests in their order. -/
theorem descriptorCheck : Obligations.DescriptorCheck := by
  intro s hf
  rw [exec_checkCfg hf]
  refine ⟨fun htype hcount => ?_, fun htype => ?_, fun htype hcount => ?_⟩
  · rw [if_neg (not_not.2 htype), if_neg hcount, goto]
  · rw [if_pos htype, raise]
  · rw [if_neg (not_not.2 htype), if_pos hcount, raise]

/-- Settles O50: a length is listed as a pattern of 11 bits, and the new length is that pattern. -/
theorem failedAllocationFaults : Obligations.FailedAllocationFaults := by
  intro s n hf hmem hn
  obtain rfl : n = newLen s.sampleCount := BitVec.eq_of_toNat_eq (hn.trans (newLen_toNat _).symm)
  have hfails : allocFails s.params (newLen s.sampleCount) = true := List.contains_iff_mem.2 hmem
  exact (live_none hf _).trans (if_pos hfails)

/-- Settles O51: the allocation leaves no written cell. -/
theorem sampleArrayIsAllocated : Obligations.SampleArrayIsAllocated := fun _ hf =>
  ⟨_, live_none hf _, samRead_of_nil rfl, rfl⟩

/-- Settles O53: the guard is tested before the store (log 12). -/
theorem sampleOutsideTheArrayFaults : Obligations.SampleOutsideTheArrayFaults := fun _ _ _ _ _ hf hg hout =>
  (live_none hf _).trans ((withGroup_some hg _).trans (if_pos hout))

end Sys2Proof.Machine
end

section
/-! PROOFS. The micro-program as a table (R181): the micro-op at each label, and where every operation goes
from there. -/
namespace Sys2Proof.Machine

/-- The labels at which an operation run in `s` can leave the sequencer when it raises no fault: the one of the column
"then" (R181, log 17), or those the operation itself names. -/
def labelsAfter (s : State) : Instr → List Label
  | .hbNop | .msgHdr | .cfgHdr | .ign _ | .collectInit _ | .collectCfg _ | .collectMsg _ | .dropped _ => [s.seqPc]
  | .beginCmd .command => [.b1, s.seqPc]
  | .readCmd .command => [.a1, s.seqPc]
  | .lengthCmd | .getCmd _ => [s.seqPc]
  | .suspend | .resume | .rearm | .sessionInit | .clearDa | .sigAssert | .loadGrp _ _ | .latchCfg | .realloc
  | .allocSam => [Label.succ s.params.hsAckRearm s.seqPc]
  | .waitDa => [Label.succ s.params.hsAckRearm s.seqPc, s.seqPc]
  | .sigDeassert => [s.ret]
  | .connect => [.h1]
  | .requestFrame _ | .requestConfig => [.f1]
  | .checkSentinel => [.h8, .h1]
  | .checkAck => [.n1, .h1]
  | .checkCfg => [.n5]
  | .readCmd .clearIdx | .storeSam => [.a3]
  | .readCmd .loopTest => [.a6, .a4a]
  | .beginCmd .complete | .readCmd .complete => [.idle]

/-- Without a fault, the sequencer stands at one of `labels`. -/
def StandsAt (labels : List Label) (t : State) : Prop := t.fault = none → t.seqPc ∈ labels

theorem StandsAt.of_mem {labels : List Label} {t : State} (h : t.seqPc ∈ labels) : StandsAt labels t := fun _ => h

theorem StandsAt.head {labels : List Label} {t : State} : StandsAt (t.seqPc :: labels) t := .of_mem List.mem_cons_self

theorem StandsAt.second {l : Label} {labels : List Label} {t : State} : StandsAt (l :: t.seqPc :: labels) t :=
  .of_mem (List.mem_cons_of_mem _ List.mem_cons_self)

theorem StandsAt.faulted {labels : List Label} {s : State} (f : Fault) : StandsAt labels { s with fault := some f } :=
  nofun

namespace Gives

/-- Every operation goes where `labelsAfter` says. -/
theorem standsAt_labelsAfter {s : State} (i : Instr) : Gives (StandsAt (labelsAfter s i)) (exec i s) := by
  cases i with
  | hbNop | msgHdr | cfgHdr | ign | dropped => exact live (next .head)
  | collectInit rx | collectCfg rx | collectMsg rx =>
    refine live fun t ht => ?_
    obtain ⟨_, rfl⟩ | ⟨_, _, rfl⟩ | ⟨_, _, rfl⟩ := collect_next ht <;> exact .head
  | beginCmd part =>
    cases part with
    | command => exact live (whenIdle (fun _ => next .head) .second)
    | complete => exact live (next .head)
  | readCmd part =>
    cases part with
    | command => exact live (whenIdle (fun _ => ite (fun _ => next .head) fun _ => next .second) .second)
    | clearIdx | complete => exact live (next .head)
    | loopTest =>
      refine live (next (.of_mem ?_))
      rw [goto_seqPc]
      split <;> simp [labelsAfter]
  | lengthCmd => exact live (whenIdle (fun _ => next .head) .head)
  | getCmd i =>
    refine live (whenIdle (fun _ => ite (fun _ => raise (.faulted _)) fun _ => ?_) .head)
    split
    · exact next .head
    · exact raise (.faulted _)
  | waitDa =>
    refine live (next ?_)
    split
    · exact .head
    · exact .second
  | loadGrp a k =>
    refine live ?_
    split
    · exact next .head
    · exact raise (.faulted _)
  | suspend | resume | rearm | sessionInit | clearDa | sigAssert | sigDeassert | allocSam | connect | requestFrame
  | requestConfig => exact live (next .head)
  | latchCfg => exact live (withGroup (fun _ _ _ _ => next .head) .faulted)
  | checkSentinel | checkAck =>
    refine live (withGroup (fun _ _ _ _ => next (.of_mem ?_)) .faulted)
    rw [goto_seqPc]
    split <;> simp [labelsAfter]
  | checkCfg =>
    exact live (ite (fun _ => raise (.faulted _)) fun _ => ite (fun _ => raise (.faulted _)) fun _ => next .head)
  | realloc => exact live (ite (fun _ => raise (.faulted _)) fun _ => next .head)
  | storeSam =>
    exact live (withGroup (fun _ _ _ _ => ite (fun _ => raise (.faulted _)) fun _ => next .head) .faulted)

end Gives

/-- The rows of R181, at a state that stands at their label. -/
theorem microInstr_programRows (s : State) : ∀ p ∈ programRows, microInstr (goto p.1 s) = some p.2 :=
  List.map_inj_left.1 rfl

/-- The label that follows is on an edge of R181, but at IDLE, which has no row, and at F4, which goes to `ret`. -/
theorem succ_mem_programEdges (hsAckRearm : Bool) {l : Label} (hl : l ∉ [.idle, .f4]) :
    (l, Label.succ hsAckRearm l) ∈ programEdges := by
  cases hsAckRearm <;> cases l with
  | idle | f4 => exact absurd hl (by decide)
  | _ => decide

/-- Wherever the micro-op at a label can go is an edge of R181, F4's return apart. -/
theorem mem_programEdges_of_labelsAfter {s : State} {i : Instr} {l : Label} (hi : microInstr s = some i)
    (hl : l ∈ labelsAfter s i) : (s.seqPc = .f4 ∧ l = s.ret) ∨ (s.seqPc, l) ∈ programEdges := by
  cases hpc : s.seqPc with
  | idle => simp [microInstr, hpc] at hi
  | f4 =>
    obtain rfl : Instr.sigDeassert = i := by simpa [microInstr, hpc] using hi
    exact .inl ⟨rfl, List.mem_singleton.1 hl⟩
  | h4 | f2 | h7 | h12 | a3 =>
    simp only [microInstr, hpc, Option.some.injEq] at hi
    subst hi
    simp only [labelsAfter, hpc, Label.succ, List.mem_cons, List.not_mem_nil, or_false] at hl
    obtain rfl | rfl := hl <;> exact .inr (by decide)
  | _ =>
    simp only [microInstr, hpc, Option.some.injEq] at hi
    subst hi
    simp only [labelsAfter, hpc, List.mem_singleton] at hl
    subst hl
    exact .inr (succ_mem_programEdges s.params.hsAckRearm (by decide))

/-- Settles O7: the rows label by label, and the edges by what the micro-op at each label can do. -/
theorem sequencerFollowsTheProgram : Obligations.SequencerFollowsTheProgram := by
  refine ⟨fun s p hp hl => ?_, fun s p hp hl => ?_, fun s hl => ?_, fun s t i hi hexec hf => ?_,
    fun s t i hl hi hexec => ?_⟩
  · have hrow := microInstr_programRows s p hp
    rwa [← hl] at hrow
  · refine ⟨groupBase s.idx, ?_, groupBase_toNat _⟩
    simp only [List.mem_cons, List.not_mem_nil, or_false] at hp
    obtain rfl | rfl | rfl | rfl := hp <;> simp only [microInstr, hl]
  · simp only [microInstr, hl]
  · exact mem_programEdges_of_labelsAfter hi (Gives.standsAt_labelsAfter i t hexec hf)
  · obtain rfl : Instr.sigAssert = i := by simpa [microInstr, hl] using hi
    obtain ⟨_, ht⟩ := live_next hexec
    rw [← next_inj ht, advance_seqPc, assertSig_seqPc, hl]
    rfl

end Sys2Proof.Machine
end

section
/-! PROOFS. The frame request turn by turn (R201), and the negotiation from the descriptor to IDLE
(R188 to R193, R202). -/
namespace Sys2Proof.Machine

section
variable {s : State} {rest : List Move}

/-- However many turns, a wait is held while no frame is complete (R182). -/
theorem run_waitDa_held (n : Nat) (hi : microInstr s = some .waitDa) (hf : s.fault = none) (hd : s.dataAvail = false)
    (hscript : s.script = List.replicate n .seq ++ rest) : run n s = .next { s with script := rest } := by
  induction n generalizing s with
  | zero =>
    rw [show rest = s.script from hscript.symm]
    rfl
  | succ n ih =>
    have hturn : step s = .next { s with script := List.replicate n .seq ++ rest } :=
      step_turn hi hf hscript (exec_waitDa_held hf hd)
    exact (run_succ hturn n).trans (ih (s := { s with script := _ }) hi hf hd rfl)

/-- F1 asserts the line and goes on to the wait (R185). -/
theorem step_frameRequest (hf : s.fault = none) (hl : s.seqPc = .f1) (hscript : s.script = .seq :: rest) :
    step s = .next { s with sig := .asserted, seqPc := .f2, script := rest } :=
  step_row (i := .sigAssert) ⟨fun _ => rfl, fun _ => rfl⟩ hf hl hscript (live_none hf _) rfl rfl

/-- With a frame complete, the wait, the clear and the release of the line take the sequencer back to the caller (R182,
R186, R187). -/
theorem run_frameCollected (hf : s.fault = none) (hl : s.seqPc = .f2) (hd : s.dataAvail = true)
    (hscript : s.script = List.replicate 3 .seq ++ rest) :
    run 3 s = .next { s with dataAvail := false, sig := .deasserted, seqPc := s.ret, script := rest } := by
  have hwait : step s = .next { s with seqPc := .f3, script := List.replicate 2 .seq ++ rest } :=
    step_row ⟨fun _ => rfl, fun _ => rfl⟩ hf hl hscript (exec_waitDa_complete hf hd) rfl rfl
  have hclear : step { s with seqPc := .f3, script := List.replicate 2 .seq ++ rest } =
      .next { s with dataAvail := false, seqPc := .f4, script := .seq :: rest } :=
    step_turn (i := .clearDa) rfl hf rfl (live_none hf _)
  have hrelease : step { s with dataAvail := false, seqPc := .f4, script := .seq :: rest } =
      .next { s with dataAvail := false, sig := .deasserted, seqPc := s.ret, script := rest } :=
    step_turn (i := .sigDeassert) rfl hf rfl (live_none hf _)
  exact (run_succ hwait 2).trans <| (run_succ hclear 1).trans <| run_succ hrelease 0

/-- At N4 an accepted descriptor goes on to the window (R189). -/
theorem step_checkCfg (hf : s.fault = none) (hl : s.seqPc = .n4) (htype : s.dataType = 0x01)
    (hcount : s.sampleCount ≠ 0) (hscript : s.script = .seq :: rest) :
    step s = .next { s with seqPc := .n5, script := rest } :=
  step_turn (by rw [microInstr, hl]) hf hscript ((descriptorCheck { s with script := rest } hf).1 htype hcount)

/-- The window of REALLOC (R191): delivery off, the new buffer, delivery on. -/
theorem run_reallocWindow (hf : s.fault = none) (hl : s.seqPc = .n5)
    (halloc : ∀ k ∈ s.params.allocFail, k.toNat ≠ 4 * s.sampleCount.toNat)
    (hscript : s.script = List.replicate 3 .seq ++ rest) :
    run 3 s = .next { s with
      isrEn := true, buf := [], bufLen := newLen s.sampleCount, seqPc := .n8, script := rest } := by
  have hsuspend : step s = .next { s with isrEn := false, seqPc := .n6, script := List.replicate 2 .seq ++ rest } :=
    step_row (i := .suspend) ⟨fun _ => rfl, fun _ => rfl⟩ hf hl hscript (live_none hf _) rfl rfl
  have hrealloc : step { s with isrEn := false, seqPc := .n6, script := List.replicate 2 .seq ++ rest } =
      .next { s with
        isrEn := false, buf := [], bufLen := newLen s.sampleCount, seqPc := .n7, script := .seq :: rest } :=
    step_turn rfl hf rfl (exec_realloc (s := { s with isrEn := false, seqPc := .n6, script := .seq :: rest }) hf halloc)
  have hresume : step { s with
        isrEn := false, buf := [], bufLen := newLen s.sampleCount, seqPc := .n7, script := .seq :: rest } =
      .next { s with isrEn := true, buf := [], bufLen := newLen s.sampleCount, seqPc := .n8, script := rest } :=
    step_turn (i := .resume) rfl hf rfl (live_none hf _)
  exact (run_succ hsuspend 2).trans <| (run_succ hrealloc 1).trans <| run_succ hresume 0

/-- From N8 the samples are allocated and `begin` ends with true (R192, R193). -/
theorem run_beginEnd (hf : s.fault = none) (hl : s.seqPc = .n8) (hscript : s.script = .seq :: .seq :: rest) :
    run 2 s = .next { s with
      samples := [], samLen := s.sampleCount, session := .up, seqPc := .idle, out := .done true :: s.out,
      script := rest } := by
  have halloc : step s = .next { s with
      samples := [], samLen := s.sampleCount, seqPc := .n9, script := .seq :: rest } :=
    step_row (i := .allocSam) ⟨fun _ => rfl, fun _ => rfl⟩ hf hl hscript (live_none hf _) rfl rfl
  have hdone : step { s with samples := [], samLen := s.sampleCount, seqPc := .n9, script := .seq :: rest } =
      .next { s with
        samples := [], samLen := s.sampleCount, session := .up, seqPc := .idle, out := .done true :: s.out,
        script := rest } :=
    step_turn (i := .beginCmd .complete) rfl hf rfl (live_none hf _)
  exact (run_succ halloc 1).trans (run_succ hdone 0)

/-- From an accepted descriptor at N4, the six turns to the end of `begin` (R189 to R193). -/
theorem run_allocation (hf : s.fault = none) (hl : s.seqPc = .n4) (htype : s.dataType = 0x01)
    (hcount : s.sampleCount ≠ 0) (halloc : ∀ k ∈ s.params.allocFail, k.toNat ≠ 4 * s.sampleCount.toNat)
    (hscript : s.script = List.replicate 6 .seq ++ rest) :
    run 6 s = .next { s with
      isrEn := true, buf := [], bufLen := newLen s.sampleCount, samples := [], samLen := s.sampleCount, session := .up,
      seqPc := .idle, out := .done true :: s.out, script := rest } := by
  have hcheck := step_checkCfg hf hl htype hcount hscript
  have hwindow := run_reallocWindow (s := { s with seqPc := .n5, script := List.replicate 5 .seq ++ rest })
    (rest := .seq :: .seq :: rest) hf rfl halloc rfl
  exact (run_succ hcheck 5).trans <| (run_add hwindow 2).trans <| run_beginEnd hf rfl rfl

end

/-- Settles O38: the four turns of the request, and the hold at its wait. -/
theorem frameRequestAsAWhole : Obligations.FrameRequestAsAWhole := by
  refine ⟨fun s rest hf hl hd hscript => ?_, fun s n rest hf hl hd hscript => ?_⟩
  · exact (run_succ (step_frameRequest hf hl hscript) 3).trans (run_frameCollected (by exact hf) rfl hd rfl)
  · rw [List.replicate_add, List.append_assoc] at hscript
    rw [Nat.add_comm, run_succ (step_frameRequest hf hl hscript)]
    exact run_waitDa_held n rfl (by exact hf) hd rfl

/-- Settles O54: the descriptor comes from the buffer and is accepted, and the allocation follows. -/
theorem negotiationSetsTheLengths : Obligations.NegotiationSetsTheLengths := by
  intro s n r0 r1 rest hf hl hn h0 h1 h2 h3 halloc hscript
  have hlatched := descriptorComesFromTheBuffer s 0x01 n r0 r1 (List.replicate 6 .seq ++ rest) hf hl h0 h1 h2 h3 hscript
  exact ⟨_, (run_add hlatched 6).trans (run_allocation (by exact hf) rfl rfl hn halloc rfl), newLen_toNat n,
    bufRead_of_nil rfl, samRead_of_nil rfl, rfl⟩

end Sys2Proof.Machine
end

section
/-! PROOFS. Taking a fault (R220 to R246): a stopped machine has no step, what each operation can raise in any state, and
which of it a sound machine can reach. -/
namespace Sys2Proof.Machine

section
variable {s t : State} {i : Instr} {f : Fault}

/-- Every operation asks first of all whether the machine has stopped. -/
theorem exec_eq_live (i : Instr) (s : State) : ∃ k, exec i s = live s k := by
  cases i <;> exact ⟨_, rfl⟩

/-- A stopped machine answers its fault (R246, log 9). -/
theorem exec_fault (hf : s.fault = some f) (i : Instr) : exec i s = .fault f := by
  obtain ⟨k, hk⟩ := exec_eq_live i s
  exact hk.trans (live_fault hf k)

theorem stepMove_fault {m : Move} (hm : m ≠ .reset) (hf : s.fault = some f) : stepMove m s = .fault f :=
  (if_neg hm).trans (live_fault hf _)

/-- The faults an operation can raise in `s`, each with the test that raises it (R220): one constructor per `raise` of the
model. -/
inductive Raises (s : State) : Instr → Fault → Prop
  | outside {i : Instr} (rx : Byte) (hi : i ∈ [.collectInit rx, .collectCfg rx, .collectMsg rx])
      (h : s.bufLen.toNat ≤ s.pos.toNat) : Raises s i (.posRange s.pos s.bufLen)
  | getOutOfRange {k : Int} (hl : s.seqPc = .idle) (h : k < 0 ∨ (s.samLen.toNat : Int) ≤ k) :
      Raises s (.getCmd k) (.indexRange k s.samLen)
  | getUnwritten (k : Int) (hl : s.seqPc = .idle) : Raises s (.getCmd k) (.uninit .sam k.toNat)
  | unwrittenByte {a : BitVec 10} {k : Fin 4} (h : bufRead s (a.toNat + k.val) = none) :
      Raises s (.loadGrp a k) (.uninit .buf (a.toNat + k.val))
  | unwrittenLatch {i : Instr} (hi : i ∈ [.checkSentinel, .checkAck, .latchCfg, .storeSam]) {k : Fin 4}
      (h : s.grp.get k = none) : Raises s i (.uninit .grp k.val)
  | badDataType : Raises s .checkCfg (.badDataType s.dataType)
  | zeroSampleCount : Raises s .checkCfg .zeroSampleCount
  | allocFail (h : allocFails s.params (newLen s.sampleCount) = true) :
      Raises s .realloc (.allocFail (newLen s.sampleCount))
  | storeOutOfRange (h : s.samLen.toNat ≤ s.idx.toNat) : Raises s .storeSam (.indexRange s.idx.toNat s.samLen)

/-- The fault that `t` records is one that `s` had, or one that the operation raises in `s`. -/
def Records (s : State) (i : Instr) (t : State) : Prop := ∀ f, t.fault = some f → s.fault = some f ∨ Raises s i f

theorem Records.silent (h : t.fault = s.fault) : Records s i t := fun _ hf => .inl (h.symm.trans hf)

theorem Records.raised (h : Raises s i f) : Records s i { s with fault := some f } := by
  rintro _ ⟨⟩
  exact .inr h

namespace Gives

theorem raises (h : Raises s i f) : Gives (Records s i) (Machine.raise f s) := raise (.raised h)

theorem collect_records {rx : Byte} (hi : i ∈ [.collectInit rx, .collectCfg rx, .collectMsg rx]) :
    Gives (Records s i) (collect rx s) := by
  intro t ht
  obtain ⟨hout, rfl⟩ | ⟨_, _, rfl⟩ | ⟨_, _, rfl⟩ := collect_next ht
  · exact .raised (.outside rx hi hout)
  · exact .silent rfl
  · exact .silent rfl

/-- The latches are read before anything else is tested (R65). -/
theorem withGroup_records (hi : i ∈ [.checkSentinel, .checkAck, .latchCfg, .storeSam])
    {k : Byte → Byte → Byte → Byte → Answer} (hk : ∀ g0 g1 g2 g3, Gives (Records s i) (k g0 g1 g2 g3)) :
    Gives (Records s i) (Machine.withGroup s k) := by
  intro t ht
  obtain ⟨g0, g1, g2, g3, _, ht⟩ | ⟨_, hnone, rfl⟩ := withGroup_next ht
  · exact hk g0 g1 g2 g3 t ht
  · exact .raised (.unwrittenLatch hi hnone)

/-- No operation records another fault than `Raises` says. -/
theorem records (i : Instr) : Gives (Records s i) (exec i s) := by
  cases i with
  | hbNop | msgHdr | cfgHdr | ign | dropped => exact live (next (.silent rfl))
  | collectInit rx | collectCfg rx | collectMsg rx => exact live (collect_records (by simp))
  | beginCmd part =>
    cases part with
    | command => exact live (whenIdle (fun _ => next (.silent rfl)) (.silent rfl))
    | complete => exact live (next (.silent rfl))
  | readCmd part =>
    cases part with
    | command =>
      exact live (whenIdle (fun _ => ite (fun _ => next (.silent rfl)) fun _ => next (.silent rfl)) (.silent rfl))
    | clearIdx | loopTest | complete => exact live (next (.silent rfl))
  | lengthCmd => exact live (whenIdle (fun _ => next (.silent rfl)) (.silent rfl))
  | getCmd k =>
    refine live (whenIdle (fun hl => ite (fun hout => raises (.getOutOfRange hl hout)) fun _ => ?_) (.silent rfl))
    split
    · exact next (.silent rfl)
    · exact raises (.getUnwritten k hl)
  | waitDa =>
    refine live (next (.silent ?_))
    split <;> rfl
  | loadGrp a k =>
    refine live ?_
    split
    · exact next (.silent rfl)
    · exact raises (.unwrittenByte ‹_›)
  | suspend | resume | rearm | sessionInit | clearDa | sigAssert | sigDeassert | allocSam | connect | requestFrame
  | requestConfig => exact live (next (.silent rfl))
  | checkSentinel | checkAck | latchCfg =>
    exact live (withGroup_records (by simp) fun _ _ _ _ => next (.silent rfl))
  | checkCfg =>
    exact live (ite (fun _ => raises .badDataType) fun _ => ite (fun _ => raises .zeroSampleCount) fun _ =>
      next (.silent rfl))
  | realloc => exact live (ite (fun hfails => raises (.allocFail hfails)) fun _ => next (.silent rfl))
  | storeSam =>
    exact live (withGroup_records (by simp) fun _ _ _ _ =>
      ite (fun hout => raises (.storeOutOfRange hout)) fun _ => next (.silent rfl))

end Gives

/-- The micro-op at a label is its row of R181, or a load of READ's decode loop, whose address goes with the index. -/
theorem microInstr_row (hi : microInstr s = some i) :
    (s.seqPc, i) ∈ programRows ∨
      (s.seqPc = .a4a ∨ s.seqPc = .a4b ∨ s.seqPc = .a4c ∨ s.seqPc = .a4d) ∧ ∃ k, i = .loadGrp (groupBase s.idx) k := by
  cases hl : s.seqPc with
  | idle => simp [microInstr, hl] at hi
  | a4a | a4b | a4c | a4d =>
    simp only [microInstr, hl, Option.some.injEq] at hi
    exact .inr ⟨by simp, _, hi.symm⟩
  | _ =>
    simp only [microInstr, hl, Option.some.injEq] at hi
    subst hi
    exact .inl (by decide)

/-- What is neither an exchange nor a command is selected by a turn of the sequencer (R180). -/
theorem microInstr_of_fetch {m : Move} (hi : fetch m s = some i) (hwire : encode i = none)
    (hcmd : ∀ c, commandInstr c ≠ i) : microInstr s = some i := by
  cases m with
  | rx b =>
    have hbyte := (Laws.Selected.decoded _ _ b (Option.some.inj hi)).2.1
    exact nomatch hwire.symm.trans hbyte
  | cmd c => exact absurd (Option.some.inj hi) (hcmd c)
  | seq => exact hi
  | reset => cases hi

/-- A load outside the decode loop is in the handshake, with the whole first buffer written (R65, R163, R188). -/
theorem row_loadGrp : ∀ p ∈ programRows, ∀ a k, p.2 = .loadGrp a k →
    a = 0 ∧ readsWholeBuffer p.1 = true ∧ ∀ r, phaseOf p.1 r = .handshake := by
  simp +contextual [programRows, readsWholeBuffer, phaseOf]

/-- A check, an allocation or a store runs at its row of R181 alone. -/
theorem row_of_fetch {m : Move} (hi : fetch m s = some i)
    (hturn : i ∈ [.checkSentinel, .checkAck, .latchCfg, .storeSam, .checkCfg, .realloc]) :
    (s.seqPc, i) ∈ programRows := by
  have hwire : ∀ i ∈ [Instr.checkSentinel, .checkAck, .latchCfg, .storeSam, .checkCfg, .realloc],
      encode i = none := by decide
  have hcmd : ∀ c, commandInstr c ≠ i := by rintro ⟨⟩ rfl <;> simp [commandInstr] at hturn
  obtain hrow | ⟨_, k, rfl⟩ := microInstr_row (microInstr_of_fetch hi (hwire i hturn) hcmd)
  · exact hrow
  · simp at hturn

/-- An operation that reads the latches stands after the four loads (R164, R167, R188, R195). -/
theorem row_latchReader : ∀ p ∈ programRows, p.2 ∈ [.checkSentinel, .checkAck, .latchCfg, .storeSam] →
    latchesFilled p.1 = 4 := by decide

namespace State.Inv

/-- Where the handshake reads the buffer, its four bytes are written (R65, R73). -/
theorem bufRead_ne_none (h : s.Inv) (hphase : phaseOf s.seqPc s.ret = .handshake)
    (hreads : readsWholeBuffer s.seqPc = true) {a : Nat} (ha : a < 4) : bufRead s a ≠ none := by
  rw [bufRead, if_pos (lt_of_lt_of_le ha h.lenLow)]
  exact Option.isSome_iff_ne_none.1 ((h.filled hphase).2 (.inr hreads) a ha)

/-- At A5 the index is inside the sample array (R194, R195). -/
theorem idx_inside (h : s.Inv) (hl : s.seqPc = .a5) : s.idx.toNat < s.samLen.toNat := by
  obtain ⟨_, _, hsam, _, hdec⟩ := (phaseSound_reading (by simp [hl, phaseOf])).1 h.phase
  exact hsam ▸ hdec (by simp [hl, decodesSample])

end State.Inv

/-- What the operation of a sound machine's move can raise, by the test that raises it. -/
theorem Raises.possibleFrom {m : Move} (h : s.Inv) (hi : fetch m s = some i) (hr : Raises s i f) :
    f.possibleFrom s := by
  cases hr with
  | outside rx _ hout => exact absurd h.posInside (not_lt.2 hout)
  | getOutOfRange hl hout => exact ⟨hl, rfl, hout⟩
  | getUnwritten k hl => exact hl
  | @unwrittenByte a k hnone =>
    obtain hrow | ⟨hl, _⟩ := microInstr_row (microInstr_of_fetch hi rfl (by rintro ⟨⟩ <;> nofun))
    · obtain ⟨rfl, hreads, hphase⟩ := row_loadGrp _ hrow a k rfl
      exact absurd hnone (h.bufRead_ne_none (hphase _) hreads (by simp))
    · exact hl
  | @unwrittenLatch _ hreader k hnone =>
    have hrow := row_of_fetch hi (List.mem_append_left [Instr.checkCfg, .realloc] hreader)
    have hfilled : k.val < latchesFilled s.seqPc := lt_of_lt_of_eq k.isLt (row_latchReader _ hrow hreader).symm
    exact absurd hnone (Option.isSome_iff_ne_none.1 (h.latches k hfilled))
  | badDataType => exact ⟨by simpa [programRows] using row_of_fetch hi (by simp), rfl⟩
  | zeroSampleCount => exact show s.seqPc = .n4 by simpa [programRows] using row_of_fetch hi (by simp)
  | allocFail hfails => exact ⟨by simpa [programRows] using row_of_fetch hi (by simp), hfails⟩
  | storeOutOfRange hout =>
    have hl : s.seqPc = .a5 := by simpa [programRows] using row_of_fetch hi (by simp)
    exact absurd (h.idx_inside hl) (not_lt.2 hout)

/-- A move of a sound machine records no fault but a possible one. -/
theorem stepMove_possibleFrom {m : Move} (h : s.Inv) (hf : s.fault = none) (ht : stepMove m s = .next t)
    (hfault : t.fault = some f) : f.possibleFrom s := by
  obtain ⟨_, rfl⟩ | ⟨_, _, i, hi, hexec⟩ | ⟨_, _, _, rfl⟩ := stepMove_next ht
  · cases hfault
  · obtain hold | hraises := Gives.records i t hexec f hfault
    · exact nomatch hf.symm.trans hold
    · exact hraises.possibleFrom h hi
  · exact nomatch hf.symm.trans hfault

end

/-- Settles O9: taking the move changes nothing that the faults depend on, and making it raises a possible one. -/
theorem soundMachineRaisesOnlyTheseFaults : Obligations.SoundMachineRaisesOnlyTheseFaults := by
  intro s t f h hf ht hfault
  have htaken : (takeMove s).2.Inv := takeMove_cells s ▸ h.withScript _ _ s.out
  have hlive : (takeMove s).2.fault = none := takeMove_cells s ▸ hf
  have hpossible : f.possibleFrom (takeMove s).2 := stepMove_possibleFrom htaken hlive ht hfault
  rw [takeMove_cells] at hpossible
  exact hpossible

/-- Settles O8: an operation and a move both ask whether the machine has stopped. -/
theorem faultedMachineHasNoStep : Obligations.FaultedMachineHasNoStep :=
  ⟨fun i _ _ hf => exec_fault hf i, fun _ _ _ _ hf hscript hm => (step_cons hscript).trans (stepMove_fault hm hf)⟩

/-- Settles O16: DROPPED is an output and a draw (R229). -/
theorem droppedExchangeChangesNothing : Obligations.DroppedExchangeChangesNothing := fun _ _ hf => live_none hf _

end Sys2Proof.Machine
end

section
/-! PROOFS. What turns and commands write of the cells they share with the byte machine (R74, R271). -/
namespace Sys2Proof.Machine

/-- The cells shared with the byte machine (R20, R271). -/
def State.sharedCells (s : State) : PState × BitVec 10 × BitVec 11 × List Host.Cell × Bool :=
  (s.pstate, s.pos, s.bufLen, s.buf, s.dataAvail)

/-- The writes made with delivery off: SESSION_INIT before the first RESUME, and those of the REARM and REALLOC windows
(R74, R160, R184, R191). -/
def suspendedWrites : List Instr := [.sessionInit, .rearm, .realloc]

section
variable {s t : State} {m : Move} {i : Instr}

namespace Gives

/-- Of what is no exchange, only the suspended writes and CLEAR_DA write a shared cell. -/
theorem keepsSharedCells (hwire : encode i = none) (hwrite : i ∉ suspendedWrites) (hclear : i ≠ .clearDa) :
    Gives (·.sharedCells = s.sharedCells) (exec i s) := by
  cases i with
  | hbNop | msgHdr | cfgHdr | ign | collectInit | collectCfg | collectMsg | dropped => cases hwire
  | sessionInit | rearm | realloc => exact absurd (by decide) hwrite
  | clearDa => exact absurd rfl hclear
  | beginCmd part =>
    cases part with
    | command => exact live (whenIdle (fun _ => next rfl) rfl)
    | complete => exact live (next rfl)
  | readCmd part =>
    cases part with
    | command => exact live (whenIdle (fun _ => ite (fun _ => next rfl) fun _ => next rfl) rfl)
    | clearIdx | loopTest | complete => exact live (next rfl)
  | lengthCmd => exact live (whenIdle (fun _ => next rfl) rfl)
  | getCmd k =>
    refine live (whenIdle (fun _ => ite (fun _ => raise rfl) fun _ => ?_) rfl)
    split
    · exact next rfl
    · exact raise rfl
  | waitDa =>
    refine live (next ?_)
    split <;> rfl
  | loadGrp a k =>
    refine live ?_
    split
    · exact next rfl
    · exact raise rfl
  | suspend | resume | sigAssert | sigDeassert | allocSam | connect | requestFrame | requestConfig =>
    exact live (next rfl)
  | checkSentinel | checkAck | latchCfg => exact live (withGroup (fun _ _ _ _ => next rfl) fun _ => rfl)
  | checkCfg => exact live (ite (fun _ => raise rfl) fun _ => ite (fun _ => raise rfl) fun _ => next rfl)
  | storeSam => exact live (withGroup (fun _ _ _ _ => ite (fun _ => raise rfl) fun _ => next rfl) fun _ => rfl)

theorem clearDa_sharedCells : Gives (·.sharedCells = (clearDataAvail s).sharedCells) (exec .clearDa s) :=
    live (next rfl)

end Gives

/-- The rows of R181 that make a suspended write stand where delivery is off (R30, R74). -/
theorem row_suspendedWrite (session : Session) :
    ∀ p ∈ programRows, p.2 ∈ suspendedWrites → deliveryAt p.1 session = false := by
  cases session <;> decide

/-- CLEAR_DA has two rows in R181. -/
theorem row_clearDa : ∀ p ∈ programRows, p.2 = .clearDa → p.1 = .h5 ∨ p.1 = .f3 := by decide

/-- What writes a shared cell and is no exchange is selected by a turn, at its row of R181. -/
theorem turn_of_fetch (hi : fetch m s = some i) (hturn : i ∈ .clearDa :: suspendedWrites) :
    m = .seq ∧ (s.seqPc, i) ∈ programRows := by
  cases m with
  | rx b =>
    have hwire : ∀ i ∈ Instr.clearDa :: suspendedWrites, encode i = none := by decide
    have hbyte := (Laws.Selected.decoded _ _ b (Option.some.inj hi)).2.1
    exact nomatch (hwire i hturn).symm.trans hbyte
  | cmd c =>
    cases hi
    cases c <;> simp [commandInstr, suspendedWrites] at hturn
  | seq =>
    obtain hrow | ⟨_, k, rfl⟩ := microInstr_row hi
    · exact ⟨rfl, hrow⟩
    · simp [suspendedWrites] at hturn
  | reset => cases hi

/-- A sound state with delivery on selects no suspended write. -/
theorem State.Inv.fetch_not_suspendedWrite (h : s.Inv) (hon : s.isrEn = true) (hi : fetch m s = some i) :
    i ∉ suspendedWrites := by
  intro hwrite
  obtain ⟨_, hrow⟩ := turn_of_fetch hi (List.mem_cons_of_mem _ hwrite)
  have hoff := row_suspendedWrite s.session _ hrow hwrite
  exact Bool.noConfusion (hon.symm.trans (h.delivery.trans hoff))

/-- CLEAR_DA is selected by a turn at H5 or F3 (R162, R186). -/
theorem fetch_clearDa_iff : fetch m s = some .clearDa ↔ m = .seq ∧ (s.seqPc = .h5 ∨ s.seqPc = .f3) := by
  constructor
  · intro hi
    obtain ⟨hm, hrow⟩ := turn_of_fetch hi List.mem_cons_self
    exact ⟨hm, row_clearDa _ hrow rfl⟩
  · rintro ⟨rfl, hl | hl⟩ <;> simp only [fetch, microInstr, hl]

/-- With delivery on, a turn or a command changes the shared cells by CLEAR_DA alone (R271). -/
theorem stepMove_sharedCells (h : s.Inv) (hon : s.isrEn = true) (hm : m = .seq ∨ ∃ c, m = .cmd c)
    (ht : stepMove m s = .next t) :
    t.sharedCells = State.sharedCells { s with
      dataAvail := if m = .seq ∧ (s.seqPc = .h5 ∨ s.seqPc = .f3) then false else s.dataAvail } := by
  obtain ⟨rfl, _⟩ | ⟨_, _, i, hi, hexec⟩ | ⟨rfl, _, hl, rfl⟩ := stepMove_next ht
  · simp at hm
  · by_cases hclear : i = .clearDa
    · subst hclear
      rw [if_pos (fetch_clearDa_iff.1 hi)]
      exact Gives.clearDa_sharedCells t hexec
    · have hwire : encode i = none := encode_of_fetch (by obtain rfl | ⟨c, rfl⟩ := hm <;> nofun) hi
      have hturn : ¬(m = .seq ∧ (s.seqPc = .h5 ∨ s.seqPc = .f3)) := fun hturn =>
        hclear (Option.some.inj (hi.symm.trans (fetch_clearDa_iff.2 hturn)))
      rw [if_neg hturn]
      exact Gives.keepsSharedCells hwire (h.fetch_not_suspendedWrite hon hi) hclear t hexec
  · rw [if_neg (by simp [hl])]

end

/-- Settles O39: no suspended write is selected with delivery on, and CLEAR_DA is selected at H5 and F3. -/
theorem onlyTheFrameFlagIsWrittenWithoutSuspension : Obligations.OnlyTheFrameFlagIsWrittenWithoutSuspension := by
  intro s t m rest h hon hm hscript ht
  rw [step_cons hscript] at ht
  have hcells := stepMove_sharedCells (h.withScript rest s.draws s.out) hon hm ht
  simpa only [State.sharedCells, Prod.mk.injEq] using hcells

end Sys2Proof.Machine
end
